-- ==== Sys2Proof/Word.lean ====
section
/-! DEFINITION. The word types of the BPF instruction set (00_scope.md R7, R13; 30_encoding.md R91) and the 64-bit slot. -/

namespace Sys2Proof

/-- A byte, the unit of data memory (10_state.md R48). -/
abbrev Byte := BitVec 8

/-- A 32-bit value: the low half `w[i]` of a register (10_state.md R32). -/
abbrev Word32 := BitVec 32

/-- A 64-bit value: a register's contents or a data address (10_state.md R30, R48). -/
abbrev Word := BitVec 64

/-- A register field: 4 bits, of which 0 to 10 name registers (10_state.md R34, 30_encoding.md R93). -/
abbrev Reg := BitVec 4

/-- The `imm` or `next_imm` field: 32 bits, read signed or unsigned as each rule says (30_encoding.md R94, R108). -/
abbrev Imm := BitVec 32

/-- The `offset` field: 16 bits (30_encoding.md R91, R94). -/
abbrev Off := BitVec 16

/-- One 64-bit slot of a program, as its eight bytes in storage order (30_encoding.md R91). -/
structure Slot where
  b0 : Byte
  b1 : Byte
  b2 : Byte
  b3 : Byte
  b4 : Byte
  b5 : Byte
  b6 : Byte
  b7 : Byte
  deriving DecidableEq, Repr

/-- The slot whose eight bytes are zero. -/
def Slot.zero : Slot := ⟨0, 0, 0, 0, 0, 0, 0, 0⟩

/-- The bytes of a slot, the lowest address first. -/
def Slot.bytes (s : Slot) : List Byte := [s.b0, s.b1, s.b2, s.b3, s.b4, s.b5, s.b6, s.b7]

end Sys2Proof
end

