-- ==== Sys2Proof/Config.lean ====
section
/-! DEFINITION. What an implementation fixes (the parameters of 00_scope.md R8 to R11, as the plain data of `Platform`)
and the free values: constants with no body, one for each value that the spec leaves open. -/

namespace Sys2Proof

/-- HOST_ENDIAN (00_scope.md R8). -/
inductive Endian where
  | little
  | big
  deriving DecidableEq, Repr

/-- The two register conventions that the spec offers for calls (44_call_exit.md R345). -/
inductive CallConv where
  /-- The default of the spec: r0 result, r1 to r5 not preserved, r6 to r9 preserved, r10 frame pointer. -/
  | linux
  /-- Nothing is assumed beyond the text of the instruction set. -/
  | isaOnly
  deriving DecidableEq, Repr

/-- MISALIGNED: what a misaligned load or store does (20_memory.md R65). -/
inductive Misaligned where
  | fault
  | split
  deriving DecidableEq, Repr

/-- The seven conformance groups (00_scope.md R3). -/
inductive ConfGroup where
  | base32
  | base64
  | atomic32
  | atomic64
  | divmul32
  | divmul64
  | packet
  deriving DecidableEq, Repr

/-- GROUPS: the groups a platform declares beside `base32`, which every platform supports (00_scope.md R2, R9).
The closure under "includes" is `Groups.supports`. -/
structure Groups where
  base64 : Bool
  atomic32 : Bool
  atomic64 : Bool
  divmul32 : Bool
  divmul64 : Bool
  packet : Bool
  deriving DecidableEq, Repr

/-- One region of data memory that a platform admits (20_memory.md R66), private or shared (R72). -/
structure Region where
  base : Word
  len : Nat
  readable : Bool
  writable : Bool
  shared : Bool
  deriving DecidableEq, Repr

/-- The ids a helper table has an entry for: those listed, and every other one where `others` holds
(00_scope.md R10, HelperById and HelperByBtf). -/
structure IdSet where
  ids : List (BitVec 32)
  others : Bool
  deriving DecidableEq, Repr

/-- A function of the platform from keys to addresses (00_scope.md R10): the listed entries, and, where `openWorld`
holds, a free value at every other key; where it does not, every other key is absent. -/
structure Table (κ : Type) where
  entries : List (κ × Word)
  openWorld : Bool
  deriving DecidableEq, Repr

/-- The parameters of a run (10_state.md R53). They are data of the state that no step changes. -/
structure Platform where
  /-- HOST_ENDIAN (00_scope.md R8). -/
  endian : Endian
  /-- GROUPS (00_scope.md R9). -/
  groups : Groups
  /-- CallConv (44_call_exit.md R345). -/
  callConv : CallConv
  /-- MAX_CALL_DEPTH, `none` for no bound (44_call_exit.md R346, 60_exceptions.md R470). -/
  maxCallDepth : Option Nat
  /-- STACK_SIZE, the bytes of stack of one frame (00_scope.md R11, 44_call_exit.md R345). -/
  stackSize : Nat
  /-- MISALIGNED (20_memory.md R65). -/
  misaligned : Misaligned
  /-- The admitted memory regions (20_memory.md R66). -/
  regions : List Region
  /-- HelperById: the static ids that have a helper (44_call_exit.md R340). -/
  helpersById : IdSet
  /-- HelperByBtf: the BTF ids that have a helper (44_call_exit.md R342). -/
  helpersByBtf : IdSet
  /-- `map_by_fd` (47_imm64.md R433). -/
  mapByFd : Table (BitVec 32)
  /-- `map_by_idx` (47_imm64.md R437). -/
  mapByIdx : Table (BitVec 32)
  /-- `map_val`, of the address of a map (47_imm64.md R434). -/
  mapVal : Table Word
  /-- `var_addr` (47_imm64.md R435). -/
  varAddr : Table (BitVec 32)
  /-- `code_addr`, evaluated at the `pc` of the instruction that uses it (47_imm64.md R436). -/
  codeAddr : Table (Int × BitVec 32)
  /-- The frame pointer that a callee is given, by the number of frames active at the call, where it is fresh (44_call_exit.md
R345, log 11). -/
  framePointers : List Word
  deriving DecidableEq, Repr

/-- FREE VALUE (log 7): what a byte of data memory that nothing has written reads as (10_state.md R52). -/
opaque Config.unwrittenByte : Nat → Byte

/-- FREE VALUE (log 8): `map_by_fd` of a file descriptor that the platform's table does not list (47_imm64.md R433). -/
opaque Config.mapByFd : BitVec 32 → Word

/-- FREE VALUE (log 8): `map_by_idx` of an index that the platform's table does not list (47_imm64.md R437). -/
opaque Config.mapByIdx : BitVec 32 → Word

/-- FREE VALUE (log 8): `map_val` of a map that the platform's table does not list (47_imm64.md R434). -/
opaque Config.mapVal : Word → Word

/-- FREE VALUE (log 8): `var_addr` of an id that the platform's table does not list (47_imm64.md R435). -/
opaque Config.varAddr : BitVec 32 → Word

/-- FREE VALUE (log 8): `code_addr` at a `pc` and an integer that the platform's table does not list
(47_imm64.md R436). -/
opaque Config.codeAddr : Int × BitVec 32 → Word

/-- FREE VALUE (log 11): a callee's frame pointer where the platform lists none for its depth (44_call_exit.md R345). -/
opaque Config.framePointer : Nat → Word

/-- FREE VALUE (log 9): the result of a helper call that no listed act describes (44_call_exit.md R344). -/
opaque Config.helperResult : Nat → Word

/-- FREE VALUE (log 9): the bytes that such a helper call stores. -/
opaque Config.helperWrites : Nat → List Host.Cell

/-- FREE VALUE (log 9): the registers that such a helper's own description names, with their values
(CallConv = isa_only, 44_call_exit.md R344). -/
opaque Config.helperNamed : Nat → List (Fin 11 × Word)

end Sys2Proof
end

