-- ==== Sys2Proof/Syntax.lean ====
section
/-! DEFINITION. The instructions: one constructor for each of the 171 rows of spec/opcode_table.json, in the order of the
rules of spec/. Operands are those of 30_encoding.md R108 and R110: register fields, `off`, `imm`, `next_imm`.
Every field that a row fixes (30_encoding.md R97, R109) is left out. -/

namespace Sys2Proof

/-- An instruction (30_encoding.md R110). Operand order: registers first, `dst` before `src`; a store lists its offset
before its datum; a jump lists its offset last. -/
inductive Instr where
  /-- `ADD_K_ALU` (40_alu32.md R150). -/
  | addKAlu (dst : Reg) (imm : Imm)
  /-- `ADD_X_ALU` (40_alu32.md R151). -/
  | addXAlu (dst src : Reg)
  /-- `SUB_K_ALU` (40_alu32.md R152). -/
  | subKAlu (dst : Reg) (imm : Imm)
  /-- `SUB_X_ALU` (40_alu32.md R153). -/
  | subXAlu (dst src : Reg)
  /-- `MUL_K_ALU` (40_alu32.md R154). -/
  | mulKAlu (dst : Reg) (imm : Imm)
  /-- `MUL_X_ALU` (40_alu32.md R155). -/
  | mulXAlu (dst src : Reg)
  /-- `DIV_K_ALU` (40_alu32.md R156). -/
  | divKAlu (dst : Reg) (imm : Imm)
  /-- `DIV_X_ALU` (40_alu32.md R157). -/
  | divXAlu (dst src : Reg)
  /-- `SDIV_K_ALU` (40_alu32.md R158). -/
  | sdivKAlu (dst : Reg) (imm : Imm)
  /-- `SDIV_X_ALU` (40_alu32.md R159). -/
  | sdivXAlu (dst src : Reg)
  /-- `OR_K_ALU` (40_alu32.md R160). -/
  | orKAlu (dst : Reg) (imm : Imm)
  /-- `OR_X_ALU` (40_alu32.md R161). -/
  | orXAlu (dst src : Reg)
  /-- `AND_K_ALU` (40_alu32.md R162). -/
  | andKAlu (dst : Reg) (imm : Imm)
  /-- `AND_X_ALU` (40_alu32.md R163). -/
  | andXAlu (dst src : Reg)
  /-- `LSH_K_ALU` (40_alu32.md R164). -/
  | lshKAlu (dst : Reg) (imm : Imm)
  /-- `LSH_X_ALU` (40_alu32.md R165). -/
  | lshXAlu (dst src : Reg)
  /-- `RSH_K_ALU` (40_alu32.md R166). -/
  | rshKAlu (dst : Reg) (imm : Imm)
  /-- `RSH_X_ALU` (40_alu32.md R167). -/
  | rshXAlu (dst src : Reg)
  /-- `NEG_K_ALU` (40_alu32.md R168). -/
  | negKAlu (dst : Reg)
  /-- `MOD_K_ALU` (40_alu32.md R169). -/
  | modKAlu (dst : Reg) (imm : Imm)
  /-- `MOD_X_ALU` (40_alu32.md R170). -/
  | modXAlu (dst src : Reg)
  /-- `SMOD_K_ALU` (40_alu32.md R171). -/
  | smodKAlu (dst : Reg) (imm : Imm)
  /-- `SMOD_X_ALU` (40_alu32.md R172). -/
  | smodXAlu (dst src : Reg)
  /-- `XOR_K_ALU` (40_alu32.md R173). -/
  | xorKAlu (dst : Reg) (imm : Imm)
  /-- `XOR_X_ALU` (40_alu32.md R174). -/
  | xorXAlu (dst src : Reg)
  /-- `MOV_K_ALU` (40_alu32.md R175). -/
  | movKAlu (dst : Reg) (imm : Imm)
  /-- `MOV_X_ALU` (40_alu32.md R176). -/
  | movXAlu (dst src : Reg)
  /-- `MOVSX8_X_ALU` (40_alu32.md R177). -/
  | movsx8XAlu (dst src : Reg)
  /-- `MOVSX16_X_ALU` (40_alu32.md R178). -/
  | movsx16XAlu (dst src : Reg)
  /-- `ARSH_K_ALU` (40_alu32.md R179). -/
  | arshKAlu (dst : Reg) (imm : Imm)
  /-- `ARSH_X_ALU` (40_alu32.md R180). -/
  | arshXAlu (dst src : Reg)
  /-- `ADD_K_ALU64` (41_alu64.md R210). -/
  | addKAlu64 (dst : Reg) (imm : Imm)
  /-- `ADD_X_ALU64` (41_alu64.md R211). -/
  | addXAlu64 (dst src : Reg)
  /-- `SUB_K_ALU64` (41_alu64.md R212). -/
  | subKAlu64 (dst : Reg) (imm : Imm)
  /-- `SUB_X_ALU64` (41_alu64.md R213). -/
  | subXAlu64 (dst src : Reg)
  /-- `MUL_K_ALU64` (41_alu64.md R214). -/
  | mulKAlu64 (dst : Reg) (imm : Imm)
  /-- `MUL_X_ALU64` (41_alu64.md R215). -/
  | mulXAlu64 (dst src : Reg)
  /-- `DIV_K_ALU64` (41_alu64.md R216). -/
  | divKAlu64 (dst : Reg) (imm : Imm)
  /-- `DIV_X_ALU64` (41_alu64.md R217). -/
  | divXAlu64 (dst src : Reg)
  /-- `SDIV_K_ALU64` (41_alu64.md R218). -/
  | sdivKAlu64 (dst : Reg) (imm : Imm)
  /-- `SDIV_X_ALU64` (41_alu64.md R219). -/
  | sdivXAlu64 (dst src : Reg)
  /-- `OR_K_ALU64` (41_alu64.md R220). -/
  | orKAlu64 (dst : Reg) (imm : Imm)
  /-- `OR_X_ALU64` (41_alu64.md R221). -/
  | orXAlu64 (dst src : Reg)
  /-- `AND_K_ALU64` (41_alu64.md R222). -/
  | andKAlu64 (dst : Reg) (imm : Imm)
  /-- `AND_X_ALU64` (41_alu64.md R223). -/
  | andXAlu64 (dst src : Reg)
  /-- `LSH_K_ALU64` (41_alu64.md R224). -/
  | lshKAlu64 (dst : Reg) (imm : Imm)
  /-- `LSH_X_ALU64` (41_alu64.md R225). -/
  | lshXAlu64 (dst src : Reg)
  /-- `RSH_K_ALU64` (41_alu64.md R226). -/
  | rshKAlu64 (dst : Reg) (imm : Imm)
  /-- `RSH_X_ALU64` (41_alu64.md R227). -/
  | rshXAlu64 (dst src : Reg)
  /-- `NEG_K_ALU64` (41_alu64.md R228). -/
  | negKAlu64 (dst : Reg)
  /-- `MOD_K_ALU64` (41_alu64.md R229). -/
  | modKAlu64 (dst : Reg) (imm : Imm)
  /-- `MOD_X_ALU64` (41_alu64.md R230). -/
  | modXAlu64 (dst src : Reg)
  /-- `SMOD_K_ALU64` (41_alu64.md R231). -/
  | smodKAlu64 (dst : Reg) (imm : Imm)
  /-- `SMOD_X_ALU64` (41_alu64.md R232). -/
  | smodXAlu64 (dst src : Reg)
  /-- `XOR_K_ALU64` (41_alu64.md R233). -/
  | xorKAlu64 (dst : Reg) (imm : Imm)
  /-- `XOR_X_ALU64` (41_alu64.md R234). -/
  | xorXAlu64 (dst src : Reg)
  /-- `MOV_K_ALU64` (41_alu64.md R235). -/
  | movKAlu64 (dst : Reg) (imm : Imm)
  /-- `MOV_X_ALU64` (41_alu64.md R236). -/
  | movXAlu64 (dst src : Reg)
  /-- `MOVSX8_X_ALU64` (41_alu64.md R237). -/
  | movsx8XAlu64 (dst src : Reg)
  /-- `MOVSX16_X_ALU64` (41_alu64.md R238). -/
  | movsx16XAlu64 (dst src : Reg)
  /-- `MOVSX32_X_ALU64` (41_alu64.md R239). -/
  | movsx32XAlu64 (dst src : Reg)
  /-- `ARSH_K_ALU64` (41_alu64.md R240). -/
  | arshKAlu64 (dst : Reg) (imm : Imm)
  /-- `ARSH_X_ALU64` (41_alu64.md R241). -/
  | arshXAlu64 (dst src : Reg)
  /-- `END_LE_ALU_16` (42_byteswap.md R262). -/
  | endLeAlu16 (dst : Reg)
  /-- `END_LE_ALU_32` (42_byteswap.md R263). -/
  | endLeAlu32 (dst : Reg)
  /-- `END_LE_ALU_64` (42_byteswap.md R264). -/
  | endLeAlu64 (dst : Reg)
  /-- `END_BE_ALU_16` (42_byteswap.md R265). -/
  | endBeAlu16 (dst : Reg)
  /-- `END_BE_ALU_32` (42_byteswap.md R266). -/
  | endBeAlu32 (dst : Reg)
  /-- `END_BE_ALU_64` (42_byteswap.md R267). -/
  | endBeAlu64 (dst : Reg)
  /-- `END_TO_ALU64_16` (42_byteswap.md R268). -/
  | endToAlu6416 (dst : Reg)
  /-- `END_TO_ALU64_32` (42_byteswap.md R269). -/
  | endToAlu6432 (dst : Reg)
  /-- `END_TO_ALU64_64` (42_byteswap.md R270). -/
  | endToAlu6464 (dst : Reg)
  /-- `JA_K_JMP` (43_jump.md R286). -/
  | jaKJmp (off : Off)
  /-- `JA_K_JMP32` (43_jump.md R287). -/
  | jaKJmp32 (imm : Imm)
  /-- `JEQ_K_JMP` (43_jump.md R288). -/
  | jeqKJmp (dst : Reg) (imm : Imm) (off : Off)
  /-- `JEQ_X_JMP` (43_jump.md R289). -/
  | jeqXJmp (dst src : Reg) (off : Off)
  /-- `JEQ_K_JMP32` (43_jump.md R290). -/
  | jeqKJmp32 (dst : Reg) (imm : Imm) (off : Off)
  /-- `JEQ_X_JMP32` (43_jump.md R291). -/
  | jeqXJmp32 (dst src : Reg) (off : Off)
  /-- `JGT_K_JMP` (43_jump.md R292). -/
  | jgtKJmp (dst : Reg) (imm : Imm) (off : Off)
  /-- `JGT_X_JMP` (43_jump.md R293). -/
  | jgtXJmp (dst src : Reg) (off : Off)
  /-- `JGT_K_JMP32` (43_jump.md R294). -/
  | jgtKJmp32 (dst : Reg) (imm : Imm) (off : Off)
  /-- `JGT_X_JMP32` (43_jump.md R295). -/
  | jgtXJmp32 (dst src : Reg) (off : Off)
  /-- `JGE_K_JMP` (43_jump.md R296). -/
  | jgeKJmp (dst : Reg) (imm : Imm) (off : Off)
  /-- `JGE_X_JMP` (43_jump.md R297). -/
  | jgeXJmp (dst src : Reg) (off : Off)
  /-- `JGE_K_JMP32` (43_jump.md R298). -/
  | jgeKJmp32 (dst : Reg) (imm : Imm) (off : Off)
  /-- `JGE_X_JMP32` (43_jump.md R299). -/
  | jgeXJmp32 (dst src : Reg) (off : Off)
  /-- `JSET_K_JMP` (43_jump.md R300). -/
  | jsetKJmp (dst : Reg) (imm : Imm) (off : Off)
  /-- `JSET_X_JMP` (43_jump.md R301). -/
  | jsetXJmp (dst src : Reg) (off : Off)
  /-- `JSET_K_JMP32` (43_jump.md R302). -/
  | jsetKJmp32 (dst : Reg) (imm : Imm) (off : Off)
  /-- `JSET_X_JMP32` (43_jump.md R303). -/
  | jsetXJmp32 (dst src : Reg) (off : Off)
  /-- `JNE_K_JMP` (43_jump.md R304). -/
  | jneKJmp (dst : Reg) (imm : Imm) (off : Off)
  /-- `JNE_X_JMP` (43_jump.md R305). -/
  | jneXJmp (dst src : Reg) (off : Off)
  /-- `JNE_K_JMP32` (43_jump.md R306). -/
  | jneKJmp32 (dst : Reg) (imm : Imm) (off : Off)
  /-- `JNE_X_JMP32` (43_jump.md R307). -/
  | jneXJmp32 (dst src : Reg) (off : Off)
  /-- `JSGT_K_JMP` (43_jump.md R308). -/
  | jsgtKJmp (dst : Reg) (imm : Imm) (off : Off)
  /-- `JSGT_X_JMP` (43_jump.md R309). -/
  | jsgtXJmp (dst src : Reg) (off : Off)
  /-- `JSGT_K_JMP32` (43_jump.md R310). -/
  | jsgtKJmp32 (dst : Reg) (imm : Imm) (off : Off)
  /-- `JSGT_X_JMP32` (43_jump.md R311). -/
  | jsgtXJmp32 (dst src : Reg) (off : Off)
  /-- `JSGE_K_JMP` (43_jump.md R312). -/
  | jsgeKJmp (dst : Reg) (imm : Imm) (off : Off)
  /-- `JSGE_X_JMP` (43_jump.md R313). -/
  | jsgeXJmp (dst src : Reg) (off : Off)
  /-- `JSGE_K_JMP32` (43_jump.md R314). -/
  | jsgeKJmp32 (dst : Reg) (imm : Imm) (off : Off)
  /-- `JSGE_X_JMP32` (43_jump.md R315). -/
  | jsgeXJmp32 (dst src : Reg) (off : Off)
  /-- `JLT_K_JMP` (43_jump.md R316). -/
  | jltKJmp (dst : Reg) (imm : Imm) (off : Off)
  /-- `JLT_X_JMP` (43_jump.md R317). -/
  | jltXJmp (dst src : Reg) (off : Off)
  /-- `JLT_K_JMP32` (43_jump.md R318). -/
  | jltKJmp32 (dst : Reg) (imm : Imm) (off : Off)
  /-- `JLT_X_JMP32` (43_jump.md R319). -/
  | jltXJmp32 (dst src : Reg) (off : Off)
  /-- `JLE_K_JMP` (43_jump.md R320). -/
  | jleKJmp (dst : Reg) (imm : Imm) (off : Off)
  /-- `JLE_X_JMP` (43_jump.md R321). -/
  | jleXJmp (dst src : Reg) (off : Off)
  /-- `JLE_K_JMP32` (43_jump.md R322). -/
  | jleKJmp32 (dst : Reg) (imm : Imm) (off : Off)
  /-- `JLE_X_JMP32` (43_jump.md R323). -/
  | jleXJmp32 (dst src : Reg) (off : Off)
  /-- `JSLT_K_JMP` (43_jump.md R324). -/
  | jsltKJmp (dst : Reg) (imm : Imm) (off : Off)
  /-- `JSLT_X_JMP` (43_jump.md R325). -/
  | jsltXJmp (dst src : Reg) (off : Off)
  /-- `JSLT_K_JMP32` (43_jump.md R326). -/
  | jsltKJmp32 (dst : Reg) (imm : Imm) (off : Off)
  /-- `JSLT_X_JMP32` (43_jump.md R327). -/
  | jsltXJmp32 (dst src : Reg) (off : Off)
  /-- `JSLE_K_JMP` (43_jump.md R328). -/
  | jsleKJmp (dst : Reg) (imm : Imm) (off : Off)
  /-- `JSLE_X_JMP` (43_jump.md R329). -/
  | jsleXJmp (dst src : Reg) (off : Off)
  /-- `JSLE_K_JMP32` (43_jump.md R330). -/
  | jsleKJmp32 (dst : Reg) (imm : Imm) (off : Off)
  /-- `JSLE_X_JMP32` (43_jump.md R331). -/
  | jsleXJmp32 (dst src : Reg) (off : Off)
  /-- `CALL_K_JMP_HELPER` (44_call_exit.md R340). -/
  | callKJmpHelper (imm : Imm)
  /-- `CALL_K_JMP_LOCAL` (44_call_exit.md R341). -/
  | callKJmpLocal (imm : Imm)
  /-- `CALL_K_JMP_BTF` (44_call_exit.md R342). -/
  | callKJmpBtf (imm : Imm)
  /-- `EXIT_K_JMP` (44_call_exit.md R343). -/
  | exitKJmp
  /-- `MEM_B_LDX` (45_load_store.md R362). -/
  | memBLdx (dst src : Reg) (off : Off)
  /-- `MEM_H_LDX` (45_load_store.md R363). -/
  | memHLdx (dst src : Reg) (off : Off)
  /-- `MEM_W_LDX` (45_load_store.md R364). -/
  | memWLdx (dst src : Reg) (off : Off)
  /-- `MEM_DW_LDX` (45_load_store.md R365). -/
  | memDwLdx (dst src : Reg) (off : Off)
  /-- `MEM_B_ST` (45_load_store.md R366). -/
  | memBSt (dst : Reg) (off : Off) (imm : Imm)
  /-- `MEM_H_ST` (45_load_store.md R367). -/
  | memHSt (dst : Reg) (off : Off) (imm : Imm)
  /-- `MEM_W_ST` (45_load_store.md R368). -/
  | memWSt (dst : Reg) (off : Off) (imm : Imm)
  /-- `MEM_DW_ST` (45_load_store.md R369). -/
  | memDwSt (dst : Reg) (off : Off) (imm : Imm)
  /-- `MEM_B_STX` (45_load_store.md R370). -/
  | memBStx (dst src : Reg) (off : Off)
  /-- `MEM_H_STX` (45_load_store.md R371). -/
  | memHStx (dst src : Reg) (off : Off)
  /-- `MEM_W_STX` (45_load_store.md R372). -/
  | memWStx (dst src : Reg) (off : Off)
  /-- `MEM_DW_STX` (45_load_store.md R373). -/
  | memDwStx (dst src : Reg) (off : Off)
  /-- `MEMSX_B_LDX` (45_load_store.md R374). -/
  | memsxBLdx (dst src : Reg) (off : Off)
  /-- `MEMSX_H_LDX` (45_load_store.md R375). -/
  | memsxHLdx (dst src : Reg) (off : Off)
  /-- `MEMSX_W_LDX` (45_load_store.md R376). -/
  | memsxWLdx (dst src : Reg) (off : Off)
  /-- `ATOMIC_W_STX_ADD` (46_atomic.md R394). -/
  | atomicWStxAdd (dst src : Reg) (off : Off)
  /-- `ATOMIC_W_STX_ADD_FETCH` (46_atomic.md R395). -/
  | atomicWStxAddFetch (dst src : Reg) (off : Off)
  /-- `ATOMIC_W_STX_OR` (46_atomic.md R396). -/
  | atomicWStxOr (dst src : Reg) (off : Off)
  /-- `ATOMIC_W_STX_OR_FETCH` (46_atomic.md R397). -/
  | atomicWStxOrFetch (dst src : Reg) (off : Off)
  /-- `ATOMIC_W_STX_AND` (46_atomic.md R398). -/
  | atomicWStxAnd (dst src : Reg) (off : Off)
  /-- `ATOMIC_W_STX_AND_FETCH` (46_atomic.md R399). -/
  | atomicWStxAndFetch (dst src : Reg) (off : Off)
  /-- `ATOMIC_W_STX_XOR` (46_atomic.md R400). -/
  | atomicWStxXor (dst src : Reg) (off : Off)
  /-- `ATOMIC_W_STX_XOR_FETCH` (46_atomic.md R401). -/
  | atomicWStxXorFetch (dst src : Reg) (off : Off)
  /-- `ATOMIC_W_STX_XCHG` (46_atomic.md R402). -/
  | atomicWStxXchg (dst src : Reg) (off : Off)
  /-- `ATOMIC_W_STX_CMPXCHG` (46_atomic.md R403). -/
  | atomicWStxCmpxchg (dst src : Reg) (off : Off)
  /-- `ATOMIC_DW_STX_ADD` (46_atomic.md R404). -/
  | atomicDwStxAdd (dst src : Reg) (off : Off)
  /-- `ATOMIC_DW_STX_ADD_FETCH` (46_atomic.md R405). -/
  | atomicDwStxAddFetch (dst src : Reg) (off : Off)
  /-- `ATOMIC_DW_STX_OR` (46_atomic.md R406). -/
  | atomicDwStxOr (dst src : Reg) (off : Off)
  /-- `ATOMIC_DW_STX_OR_FETCH` (46_atomic.md R407). -/
  | atomicDwStxOrFetch (dst src : Reg) (off : Off)
  /-- `ATOMIC_DW_STX_AND` (46_atomic.md R408). -/
  | atomicDwStxAnd (dst src : Reg) (off : Off)
  /-- `ATOMIC_DW_STX_AND_FETCH` (46_atomic.md R409). -/
  | atomicDwStxAndFetch (dst src : Reg) (off : Off)
  /-- `ATOMIC_DW_STX_XOR` (46_atomic.md R410). -/
  | atomicDwStxXor (dst src : Reg) (off : Off)
  /-- `ATOMIC_DW_STX_XOR_FETCH` (46_atomic.md R411). -/
  | atomicDwStxXorFetch (dst src : Reg) (off : Off)
  /-- `ATOMIC_DW_STX_XCHG` (46_atomic.md R412). -/
  | atomicDwStxXchg (dst src : Reg) (off : Off)
  /-- `ATOMIC_DW_STX_CMPXCHG` (46_atomic.md R413). -/
  | atomicDwStxCmpxchg (dst src : Reg) (off : Off)
  /-- `IMM_NEXT` (47_imm64.md R431). -/
  | immNext (nextImm : Imm)
  /-- `IMM_DW_LD_IMM64` (47_imm64.md R432). -/
  | immDwLdImm64 (dst : Reg) (imm nextImm : Imm)
  /-- `IMM_DW_LD_MAPFD` (47_imm64.md R433). -/
  | immDwLdMapfd (dst : Reg) (imm : Imm)
  /-- `IMM_DW_LD_MAPFD_VAL` (47_imm64.md R434). -/
  | immDwLdMapfdVal (dst : Reg) (imm nextImm : Imm)
  /-- `IMM_DW_LD_VARADDR` (47_imm64.md R435). -/
  | immDwLdVaraddr (dst : Reg) (imm : Imm)
  /-- `IMM_DW_LD_CODEADDR` (47_imm64.md R436). -/
  | immDwLdCodeaddr (dst : Reg) (imm : Imm)
  /-- `IMM_DW_LD_MAPIDX` (47_imm64.md R437). -/
  | immDwLdMapidx (dst : Reg) (imm : Imm)
  /-- `IMM_DW_LD_MAPIDX_VAL` (47_imm64.md R438). -/
  | immDwLdMapidxVal (dst : Reg) (imm nextImm : Imm)
  /-- `ABS_W_LD` (48_packet.md R451). -/
  | absWLd (imm : Imm)
  /-- `ABS_H_LD` (48_packet.md R452). -/
  | absHLd (imm : Imm)
  /-- `ABS_B_LD` (48_packet.md R453). -/
  | absBLd (imm : Imm)
  /-- `IND_W_LD` (48_packet.md R454). -/
  | indWLd (src : Reg) (imm : Imm)
  /-- `IND_H_LD` (48_packet.md R455). -/
  | indHLd (src : Reg) (imm : Imm)
  /-- `IND_B_LD` (48_packet.md R456). -/
  | indBLd (src : Reg) (imm : Imm)
  deriving DecidableEq, Repr

end Sys2Proof
end

