-- ==== Sys2Proof/Machine/State.lean ====
section
/-! DEFINITION. The machine's state (10_state.md), why it can stop, and the state after reset. Every field is plain data. -/

namespace Sys2Proof.Machine

/-- The kind of a memory access, as `MemFault` reports it (60_exceptions.md R468). -/
inductive MemKind where
  | read
  | write
  | atomic
  | misaligned
  deriving DecidableEq, Repr

/-- The faults of 60_exceptions.md. A fault is terminal, precise and synchronous, and the faulting instruction has written
nothing (R461). The spec states each of them, so each is safe: no claim about a value can rest on one. -/
inductive Fault where
  /-- Raised at fetch, and by `IMM_NEXT` in instruction position (R463). Safe. -/
  | illegalInstruction (pc : Int)
  /-- Raised at fetch where `pc` is the second slot of a wide instruction (R464). Safe. -/
  | jumpIntoWide (pc : Int)
  /-- Raised at fetch where `pc` is outside the program (R465). Safe. -/
  | pcOutOfRange (pc : Int)
  /-- Raised before execution where the platform does not support the instruction's group (R466). Safe. -/
  | unsupportedGroup (g : ConfGroup)
  /-- Raised by an instruction that reads a register holding no value (R467). Safe. -/
  | uninitRegister (r : Reg)
  /-- Raised by a load, store or atomic (R468). Safe. -/
  | memFault (addr : Word) (n : Nat) (kind : MemKind)
  /-- Raised by a helper call whose id the platform does not have (R469). Safe. -/
  | unknownHelper (imm : BitVec 32)
  /-- Raised by a 64-bit immediate whose address function has no value (R469). Safe. -/
  | platformLookup (subtype : BitVec 4) (imm : BitVec 32)
  /-- Raised by a program-local call at the depth bound (R470). Safe. -/
  | callDepth
  /-- The fault that a helper's own contract raises (44_call_exit.md R344; the name is the model's, log 27). Safe. -/
  | helperFault (imm : BitVec 32)
  deriving DecidableEq, Repr

/-- Why the model gives an instruction no meaning. -/
inductive Refusal where
  /-- An instruction that the model has no meaning for yet. No arm of `exec` answers it. Safe. -/
  | notModelled (mnemonic : String)
  /-- The six legacy packet instructions, which the spec refuses (48_packet.md R450, 60_exceptions.md R471). Safe. -/
  | packet
  deriving DecidableEq, Repr

/-- A frame of the hidden call stack (10_state.md R51, 44_call_exit.md R341, R345): the return slot, and under
CallConv = linux what the caller's r6 to r10 hold. -/
inductive Frame where
  | isaOnly (ret : Int)
  | linux (ret : Int) (r6 r7 r8 r9 r10 : Option Word)
  deriving DecidableEq, Repr

/-- Whether the run goes on (10_state.md R54): it ends at the outermost EXIT, with x[0] as its result under
CallConv = linux and with no register singled out under isa_only. -/
inductive RunStatus where
  | running
  | ended (result : Option Word)
  deriving DecidableEq, Repr

/-- What one helper call does (44_call_exit.md R344), an input of the run: it returns, with its result for r0, the registers
its own description names (used under isa_only), and the bytes it stores; or it faults. -/
inductive HelperAct where
  | returns (result : Word) (named : List (Fin 11 × Word)) (writes : List Host.Cell)
  | fault
  deriving DecidableEq, Repr

/-- Data memory (10_state.md R48): the bytes written so far, as address and byte, the addresses strictly rising. An address
that is not listed has not been written, and reads as the free value `Config.unwrittenByte` (log 7). -/
abbrev Memory := List Host.Cell

/-- The canonical form of memory: addresses strictly rising and below 2^64 (10_state.md R48). -/
abbrev Memory.wf (m : Memory) : Prop :=
  m.Pairwise (fun c d => c.1 < d.1) ∧ ∀ c ∈ m, c.1 < 2 ^ 64

/-- The state of the machine. -/
structure State where
  /-- r0 to r10 (10_state.md R30); `none` is "holds no value" (R35), which only a call brings about (44_call_exit.md R344, R345). -/
  regs : Vector (Option Word) 11
  /-- The index of a 64-bit slot of the program, an unbounded integer (10_state.md R40, R42). -/
  pc : Int
  /-- The hidden call stack, the newest frame first (10_state.md R51). -/
  calls : List Frame
  /-- Data memory (10_state.md R48). -/
  mem : Memory
  /-- Whether the run goes on (10_state.md R54). -/
  status : RunStatus
  /-- PROGRAM (10_state.md R50): no step changes it. -/
  program : List Slot
  /-- The parameters of the run (10_state.md R53): no step changes them. -/
  platform : Platform
  /-- An input of the run: what the environment stores into shared regions before each step, step by step (20_memory.md R72). -/
  interference : List (List Host.Cell)
  /-- An input of the run: what the platform's helpers do, call by call (44_call_exit.md R344). -/
  helperActs : List HelperAct
  /-- The MODEL's own field: the platform's record of the stack regions in use under CallConv = linux (44_call_exit.md R345), the
frame pointer of each active function as the platform chose it, the newest first. Only CALL local and EXIT look at it (log 29). -/
  stackTops : List Word
  /-- The MODEL's own counter, the argument of the free values of helper calls and frame pointers (log 10). -/
  freeIdx : Nat
  deriving DecidableEq, Repr

/-- What a step or an instruction answers. -/
abbrev Result := Host.Outcome State Fault Refusal

/-- The start of a run (10_state.md R52): `pc` is 0, no call is active, and the platform gives everything else. The stack in use is
that of the entry function, of which r10 is the frame pointer. -/
def State.launch (platform : Platform) (program : List Slot) (entry : Vector (Option Word) 11) (mem : Memory)
    (interference : List (List Host.Cell)) (helperActs : List HelperAct) : State :=
  { regs := entry
    pc := 0
    calls := []
    mem := mem
    status := .running
    program := program
    platform := platform
    interference := interference
    helperActs := helperActs
    stackTops := entry[10].toList
    freeIdx := 0 }

/-- The platform of `State.reset` (DESIGN CHOICE and PRESUMED, logs 2, 5, 6, 8 and 11: the spec leaves each to the platform). -/
def resetPlatform : Platform :=
  { endian := .little
    groups :=
      { base64 := true
        atomic32 := true
        atomic64 := true
        divmul32 := true
        divmul64 := true
        packet := false }
    callConv := .linux
    maxCallDepth := none
    stackSize := 512
    misaligned := .fault
    regions := [{ base := 0, len := 2 ^ 64, readable := true, writable := true, shared := false }]
    helpersById := { ids := [], others := true }
    helpersByBtf := { ids := [], others := true }
    mapByFd := { entries := [], openWorld := true }
    mapByIdx := { entries := [], openWorld := true }
    mapVal := { entries := [], openWorld := true }
    varAddr := { entries := [], openWorld := true }
    codeAddr := { entries := [], openWorld := true }
    framePointers := [] }

/-- The registers of `State.reset` (DESIGN CHOICE, log 3): r1 and r10 as in 95_test_vectors.md section 5, the others zero. -/
def resetRegs : Vector (Option Word) 11 :=
  #v[some 0, some 0x2000, some 0, some 0, some 0, some 0, some 0, some 0, some 0, some 0, some 0x10000]

/-- The machine as it stands before any program is loaded: the start state of 10_state.md R52 with the platform and the
registers that the log names, no program, and no memory written (log 18). -/
def State.reset : State := State.launch resetPlatform [] resetRegs [] [] []

end Sys2Proof.Machine
end

