-- ==== Sys2Proof/Machine/Groups.lean ====
section
/-! DEFINITION. Conformance groups: the group of every instruction and the closure of GROUPS (00_scope.md R3, R4, R9). -/

namespace Sys2Proof.Machine

/-- Whether a platform supports a group: `base32` always, and every group that a declared one includes (00_scope.md R2, R3).
The packet group has no effect on what the machine does (48_packet.md R450). -/
def supports (gs : Groups) : ConfGroup → Bool
  | .base32 => true
  | .base64 => gs.base64
  | .atomic32 => gs.atomic32 || gs.atomic64
  | .atomic64 => gs.atomic64
  | .divmul32 => gs.divmul32 || gs.divmul64
  | .divmul64 => gs.divmul64
  | .packet => gs.packet

/-- The group of an instruction (00_scope.md R4, the `group` column of the opcode table). -/
def groupOf : Instr → ConfGroup
  | .addKAlu _ _ => .base32
  | .addXAlu _ _ => .base32
  | .subKAlu _ _ => .base32
  | .subXAlu _ _ => .base32
  | .mulKAlu _ _ => .divmul32
  | .mulXAlu _ _ => .divmul32
  | .divKAlu _ _ => .divmul32
  | .divXAlu _ _ => .divmul32
  | .sdivKAlu _ _ => .divmul32
  | .sdivXAlu _ _ => .divmul32
  | .orKAlu _ _ => .base32
  | .orXAlu _ _ => .base32
  | .andKAlu _ _ => .base32
  | .andXAlu _ _ => .base32
  | .lshKAlu _ _ => .base32
  | .lshXAlu _ _ => .base32
  | .rshKAlu _ _ => .base32
  | .rshXAlu _ _ => .base32
  | .negKAlu _ => .base32
  | .modKAlu _ _ => .divmul32
  | .modXAlu _ _ => .divmul32
  | .smodKAlu _ _ => .divmul32
  | .smodXAlu _ _ => .divmul32
  | .xorKAlu _ _ => .base32
  | .xorXAlu _ _ => .base32
  | .movKAlu _ _ => .base32
  | .movXAlu _ _ => .base32
  | .movsx8XAlu _ _ => .base32
  | .movsx16XAlu _ _ => .base32
  | .arshKAlu _ _ => .base32
  | .arshXAlu _ _ => .base32
  | .addKAlu64 _ _ => .base64
  | .addXAlu64 _ _ => .base64
  | .subKAlu64 _ _ => .base64
  | .subXAlu64 _ _ => .base64
  | .mulKAlu64 _ _ => .divmul64
  | .mulXAlu64 _ _ => .divmul64
  | .divKAlu64 _ _ => .divmul64
  | .divXAlu64 _ _ => .divmul64
  | .sdivKAlu64 _ _ => .divmul64
  | .sdivXAlu64 _ _ => .divmul64
  | .orKAlu64 _ _ => .base64
  | .orXAlu64 _ _ => .base64
  | .andKAlu64 _ _ => .base64
  | .andXAlu64 _ _ => .base64
  | .lshKAlu64 _ _ => .base64
  | .lshXAlu64 _ _ => .base64
  | .rshKAlu64 _ _ => .base64
  | .rshXAlu64 _ _ => .base64
  | .negKAlu64 _ => .base64
  | .modKAlu64 _ _ => .divmul64
  | .modXAlu64 _ _ => .divmul64
  | .smodKAlu64 _ _ => .divmul64
  | .smodXAlu64 _ _ => .divmul64
  | .xorKAlu64 _ _ => .base64
  | .xorXAlu64 _ _ => .base64
  | .movKAlu64 _ _ => .base64
  | .movXAlu64 _ _ => .base64
  | .movsx8XAlu64 _ _ => .base64
  | .movsx16XAlu64 _ _ => .base64
  | .movsx32XAlu64 _ _ => .base64
  | .arshKAlu64 _ _ => .base64
  | .arshXAlu64 _ _ => .base64
  | .endLeAlu16 _ => .base32
  | .endLeAlu32 _ => .base32
  | .endLeAlu64 _ => .base64
  | .endBeAlu16 _ => .base32
  | .endBeAlu32 _ => .base32
  | .endBeAlu64 _ => .base64
  | .endToAlu6416 _ => .base32
  | .endToAlu6432 _ => .base32
  | .endToAlu6464 _ => .base64
  | .jaKJmp _ => .base32
  | .jaKJmp32 _ => .base32
  | .jeqKJmp _ _ _ => .base64
  | .jeqXJmp _ _ _ => .base64
  | .jeqKJmp32 _ _ _ => .base32
  | .jeqXJmp32 _ _ _ => .base32
  | .jgtKJmp _ _ _ => .base64
  | .jgtXJmp _ _ _ => .base64
  | .jgtKJmp32 _ _ _ => .base32
  | .jgtXJmp32 _ _ _ => .base32
  | .jgeKJmp _ _ _ => .base64
  | .jgeXJmp _ _ _ => .base64
  | .jgeKJmp32 _ _ _ => .base32
  | .jgeXJmp32 _ _ _ => .base32
  | .jsetKJmp _ _ _ => .base64
  | .jsetXJmp _ _ _ => .base64
  | .jsetKJmp32 _ _ _ => .base32
  | .jsetXJmp32 _ _ _ => .base32
  | .jneKJmp _ _ _ => .base64
  | .jneXJmp _ _ _ => .base64
  | .jneKJmp32 _ _ _ => .base32
  | .jneXJmp32 _ _ _ => .base32
  | .jsgtKJmp _ _ _ => .base64
  | .jsgtXJmp _ _ _ => .base64
  | .jsgtKJmp32 _ _ _ => .base32
  | .jsgtXJmp32 _ _ _ => .base32
  | .jsgeKJmp _ _ _ => .base64
  | .jsgeXJmp _ _ _ => .base64
  | .jsgeKJmp32 _ _ _ => .base32
  | .jsgeXJmp32 _ _ _ => .base32
  | .jltKJmp _ _ _ => .base64
  | .jltXJmp _ _ _ => .base64
  | .jltKJmp32 _ _ _ => .base32
  | .jltXJmp32 _ _ _ => .base32
  | .jleKJmp _ _ _ => .base64
  | .jleXJmp _ _ _ => .base64
  | .jleKJmp32 _ _ _ => .base32
  | .jleXJmp32 _ _ _ => .base32
  | .jsltKJmp _ _ _ => .base64
  | .jsltXJmp _ _ _ => .base64
  | .jsltKJmp32 _ _ _ => .base32
  | .jsltXJmp32 _ _ _ => .base32
  | .jsleKJmp _ _ _ => .base64
  | .jsleXJmp _ _ _ => .base64
  | .jsleKJmp32 _ _ _ => .base32
  | .jsleXJmp32 _ _ _ => .base32
  | .callKJmpHelper _ => .base32
  | .callKJmpLocal _ => .base32
  | .callKJmpBtf _ => .base32
  | .exitKJmp => .base32
  | .memBLdx _ _ _ => .base32
  | .memHLdx _ _ _ => .base32
  | .memWLdx _ _ _ => .base32
  | .memDwLdx _ _ _ => .base64
  | .memBSt _ _ _ => .base32
  | .memHSt _ _ _ => .base32
  | .memWSt _ _ _ => .base32
  | .memDwSt _ _ _ => .base64
  | .memBStx _ _ _ => .base32
  | .memHStx _ _ _ => .base32
  | .memWStx _ _ _ => .base32
  | .memDwStx _ _ _ => .base64
  | .memsxBLdx _ _ _ => .base32
  | .memsxHLdx _ _ _ => .base32
  | .memsxWLdx _ _ _ => .base32
  | .atomicWStxAdd _ _ _ => .atomic32
  | .atomicWStxAddFetch _ _ _ => .atomic32
  | .atomicWStxOr _ _ _ => .atomic32
  | .atomicWStxOrFetch _ _ _ => .atomic32
  | .atomicWStxAnd _ _ _ => .atomic32
  | .atomicWStxAndFetch _ _ _ => .atomic32
  | .atomicWStxXor _ _ _ => .atomic32
  | .atomicWStxXorFetch _ _ _ => .atomic32
  | .atomicWStxXchg _ _ _ => .atomic32
  | .atomicWStxCmpxchg _ _ _ => .atomic32
  | .atomicDwStxAdd _ _ _ => .atomic64
  | .atomicDwStxAddFetch _ _ _ => .atomic64
  | .atomicDwStxOr _ _ _ => .atomic64
  | .atomicDwStxOrFetch _ _ _ => .atomic64
  | .atomicDwStxAnd _ _ _ => .atomic64
  | .atomicDwStxAndFetch _ _ _ => .atomic64
  | .atomicDwStxXor _ _ _ => .atomic64
  | .atomicDwStxXorFetch _ _ _ => .atomic64
  | .atomicDwStxXchg _ _ _ => .atomic64
  | .atomicDwStxCmpxchg _ _ _ => .atomic64
  | .immNext _ => .base64
  | .immDwLdImm64 _ _ _ => .base64
  | .immDwLdMapfd _ _ => .base64
  | .immDwLdMapfdVal _ _ _ => .base64
  | .immDwLdVaraddr _ _ => .base64
  | .immDwLdCodeaddr _ _ => .base64
  | .immDwLdMapidx _ _ => .base64
  | .immDwLdMapidxVal _ _ _ => .base64
  | .absWLd _ => .packet
  | .absHLd _ => .packet
  | .absBLd _ => .packet
  | .indWLd _ _ => .packet
  | .indHLd _ _ => .packet
  | .indBLd _ _ => .packet

end Sys2Proof.Machine
end

