-- ==== Sys2Proof/Machine/Memory.lean ====
section
/-! DEFINITION. Data memory as a list of address and byte in one canonical form, and the order of the bytes of a value
(20_memory.md R60 to R64). -/

namespace Sys2Proof.Machine

/-- The byte listed at an address. -/
def Memory.get? : Memory → Nat → Option Byte
  | [], _ => none
  | (a, b) :: m, k => if a = k then some b else if a < k then Memory.get? m k else none

/-- List the byte `b` at the address `k`, keeping the addresses strictly rising. -/
def Memory.set : Memory → Nat → Byte → Memory
  | [], k, b => [(k, b)]
  | (a, c) :: m, k, b =>
    if a = k then (k, b) :: m else if a < k then (a, c) :: Memory.set m k b else (k, b) :: (a, c) :: m

/-- Store bytes one after the other from an address up, modulo 2^64 (20_memory.md R62). -/
def Memory.store (m : Memory) (addr : Word) : List Byte → Memory
  | [] => m
  | b :: bs => Memory.store (Memory.set m addr.toNat b) (addr + 1) bs

/-- Store cells in order, later cells over earlier ones. -/
def Memory.storeCells (m : Memory) : List Host.Cell → Memory
  | [] => m
  | (a, b) :: cs => Memory.storeCells (Memory.set m a b) cs

/-- The four access sizes (20_memory.md R67). -/
inductive Size where
  | b
  | h
  | w
  | dw
  deriving DecidableEq, Repr

/-- The number of bytes of a size (20_memory.md R67, 30_encoding.md R106). -/
def Size.bytes : Size → Nat
  | .b => 1
  | .h => 2
  | .w => 4
  | .dw => 8

/-- The lowest `n` bytes of a value, the least significant first (00_scope.md R17). -/
def leBytes (v : Word) (n : Nat) : List Byte := (List.range n).map fun k => v.extractLsb' (8 * k) 8

/-- The value of a list of bytes, the least significant first. -/
def ofLeBytes : List Byte → Word
  | [] => 0
  | b :: bs => b.setWidth 64 ||| (ofLeBytes bs <<< 8)

/-- The bytes of an `n`-byte value in the order in which a host stores them, the lowest address first (20_memory.md R62). -/
def disassemble (e : Endian) (n : Nat) (v : Word) : List Byte :=
  match e with
  | .little => leBytes v n
  | .big => (leBytes v n).reverse

/-- The value of bytes in the order in which a host stores them (20_memory.md R61), zero-extended. -/
def assemble (e : Endian) (bs : List Byte) : Word :=
  match e with
  | .little => ofLeBytes bs
  | .big => ofLeBytes bs.reverse

/-- `bswapN` of the low `n` bytes of a value, zero-extended (00_scope.md R17, 42_byteswap.md R261). -/
def bswap (n : Nat) (v : Word) : Word := ofLeBytes (leBytes v n).reverse

/-- The conversion between the host's byte order and the order `target`: `leN` or `beN` of the low `n` bytes, zero-extended
(00_scope.md R17, 42_byteswap.md R261). -/
def convert (host target : Endian) (n : Nat) (v : Word) : Word :=
  if host = target then ofLeBytes (leBytes v n) else bswap n v

end Sys2Proof.Machine
end

