-- ==== Sys2Proof/WellFormed.lean ====
section
/-! DEFINITION. Well-formed instructions. The types of `Instr` already fix every width; what is left to check is that a field
used as a register number holds 0 to 10 (10_state.md R34, 30_encoding.md R111 item 4). -/

namespace Sys2Proof

/-- The register numbers that an instruction names, in the order in which its rule reads or writes them. The subtype in
the source field of CALL and LD IMM DW is no register number (10_state.md R34). -/
def Instr.regs : Instr → List Reg
  | .addKAlu dst _ => [dst]
  | .addXAlu dst src => [dst, src]
  | .subKAlu dst _ => [dst]
  | .subXAlu dst src => [dst, src]
  | .mulKAlu dst _ => [dst]
  | .mulXAlu dst src => [dst, src]
  | .divKAlu dst _ => [dst]
  | .divXAlu dst src => [dst, src]
  | .sdivKAlu dst _ => [dst]
  | .sdivXAlu dst src => [dst, src]
  | .orKAlu dst _ => [dst]
  | .orXAlu dst src => [dst, src]
  | .andKAlu dst _ => [dst]
  | .andXAlu dst src => [dst, src]
  | .lshKAlu dst _ => [dst]
  | .lshXAlu dst src => [dst, src]
  | .rshKAlu dst _ => [dst]
  | .rshXAlu dst src => [dst, src]
  | .negKAlu dst => [dst]
  | .modKAlu dst _ => [dst]
  | .modXAlu dst src => [dst, src]
  | .smodKAlu dst _ => [dst]
  | .smodXAlu dst src => [dst, src]
  | .xorKAlu dst _ => [dst]
  | .xorXAlu dst src => [dst, src]
  | .movKAlu dst _ => [dst]
  | .movXAlu dst src => [dst, src]
  | .movsx8XAlu dst src => [dst, src]
  | .movsx16XAlu dst src => [dst, src]
  | .arshKAlu dst _ => [dst]
  | .arshXAlu dst src => [dst, src]
  | .addKAlu64 dst _ => [dst]
  | .addXAlu64 dst src => [dst, src]
  | .subKAlu64 dst _ => [dst]
  | .subXAlu64 dst src => [dst, src]
  | .mulKAlu64 dst _ => [dst]
  | .mulXAlu64 dst src => [dst, src]
  | .divKAlu64 dst _ => [dst]
  | .divXAlu64 dst src => [dst, src]
  | .sdivKAlu64 dst _ => [dst]
  | .sdivXAlu64 dst src => [dst, src]
  | .orKAlu64 dst _ => [dst]
  | .orXAlu64 dst src => [dst, src]
  | .andKAlu64 dst _ => [dst]
  | .andXAlu64 dst src => [dst, src]
  | .lshKAlu64 dst _ => [dst]
  | .lshXAlu64 dst src => [dst, src]
  | .rshKAlu64 dst _ => [dst]
  | .rshXAlu64 dst src => [dst, src]
  | .negKAlu64 dst => [dst]
  | .modKAlu64 dst _ => [dst]
  | .modXAlu64 dst src => [dst, src]
  | .smodKAlu64 dst _ => [dst]
  | .smodXAlu64 dst src => [dst, src]
  | .xorKAlu64 dst _ => [dst]
  | .xorXAlu64 dst src => [dst, src]
  | .movKAlu64 dst _ => [dst]
  | .movXAlu64 dst src => [dst, src]
  | .movsx8XAlu64 dst src => [dst, src]
  | .movsx16XAlu64 dst src => [dst, src]
  | .movsx32XAlu64 dst src => [dst, src]
  | .arshKAlu64 dst _ => [dst]
  | .arshXAlu64 dst src => [dst, src]
  | .endLeAlu16 dst => [dst]
  | .endLeAlu32 dst => [dst]
  | .endLeAlu64 dst => [dst]
  | .endBeAlu16 dst => [dst]
  | .endBeAlu32 dst => [dst]
  | .endBeAlu64 dst => [dst]
  | .endToAlu6416 dst => [dst]
  | .endToAlu6432 dst => [dst]
  | .endToAlu6464 dst => [dst]
  | .jaKJmp _ => []
  | .jaKJmp32 _ => []
  | .jeqKJmp dst _ _ => [dst]
  | .jeqXJmp dst src _ => [dst, src]
  | .jeqKJmp32 dst _ _ => [dst]
  | .jeqXJmp32 dst src _ => [dst, src]
  | .jgtKJmp dst _ _ => [dst]
  | .jgtXJmp dst src _ => [dst, src]
  | .jgtKJmp32 dst _ _ => [dst]
  | .jgtXJmp32 dst src _ => [dst, src]
  | .jgeKJmp dst _ _ => [dst]
  | .jgeXJmp dst src _ => [dst, src]
  | .jgeKJmp32 dst _ _ => [dst]
  | .jgeXJmp32 dst src _ => [dst, src]
  | .jsetKJmp dst _ _ => [dst]
  | .jsetXJmp dst src _ => [dst, src]
  | .jsetKJmp32 dst _ _ => [dst]
  | .jsetXJmp32 dst src _ => [dst, src]
  | .jneKJmp dst _ _ => [dst]
  | .jneXJmp dst src _ => [dst, src]
  | .jneKJmp32 dst _ _ => [dst]
  | .jneXJmp32 dst src _ => [dst, src]
  | .jsgtKJmp dst _ _ => [dst]
  | .jsgtXJmp dst src _ => [dst, src]
  | .jsgtKJmp32 dst _ _ => [dst]
  | .jsgtXJmp32 dst src _ => [dst, src]
  | .jsgeKJmp dst _ _ => [dst]
  | .jsgeXJmp dst src _ => [dst, src]
  | .jsgeKJmp32 dst _ _ => [dst]
  | .jsgeXJmp32 dst src _ => [dst, src]
  | .jltKJmp dst _ _ => [dst]
  | .jltXJmp dst src _ => [dst, src]
  | .jltKJmp32 dst _ _ => [dst]
  | .jltXJmp32 dst src _ => [dst, src]
  | .jleKJmp dst _ _ => [dst]
  | .jleXJmp dst src _ => [dst, src]
  | .jleKJmp32 dst _ _ => [dst]
  | .jleXJmp32 dst src _ => [dst, src]
  | .jsltKJmp dst _ _ => [dst]
  | .jsltXJmp dst src _ => [dst, src]
  | .jsltKJmp32 dst _ _ => [dst]
  | .jsltXJmp32 dst src _ => [dst, src]
  | .jsleKJmp dst _ _ => [dst]
  | .jsleXJmp dst src _ => [dst, src]
  | .jsleKJmp32 dst _ _ => [dst]
  | .jsleXJmp32 dst src _ => [dst, src]
  | .callKJmpHelper _ => []
  | .callKJmpLocal _ => []
  | .callKJmpBtf _ => []
  | .exitKJmp => []
  | .memBLdx dst src _ => [dst, src]
  | .memHLdx dst src _ => [dst, src]
  | .memWLdx dst src _ => [dst, src]
  | .memDwLdx dst src _ => [dst, src]
  | .memBSt dst _ _ => [dst]
  | .memHSt dst _ _ => [dst]
  | .memWSt dst _ _ => [dst]
  | .memDwSt dst _ _ => [dst]
  | .memBStx dst src _ => [dst, src]
  | .memHStx dst src _ => [dst, src]
  | .memWStx dst src _ => [dst, src]
  | .memDwStx dst src _ => [dst, src]
  | .memsxBLdx dst src _ => [dst, src]
  | .memsxHLdx dst src _ => [dst, src]
  | .memsxWLdx dst src _ => [dst, src]
  | .atomicWStxAdd dst src _ => [dst, src]
  | .atomicWStxAddFetch dst src _ => [dst, src]
  | .atomicWStxOr dst src _ => [dst, src]
  | .atomicWStxOrFetch dst src _ => [dst, src]
  | .atomicWStxAnd dst src _ => [dst, src]
  | .atomicWStxAndFetch dst src _ => [dst, src]
  | .atomicWStxXor dst src _ => [dst, src]
  | .atomicWStxXorFetch dst src _ => [dst, src]
  | .atomicWStxXchg dst src _ => [dst, src]
  | .atomicWStxCmpxchg dst src _ => [dst, src]
  | .atomicDwStxAdd dst src _ => [dst, src]
  | .atomicDwStxAddFetch dst src _ => [dst, src]
  | .atomicDwStxOr dst src _ => [dst, src]
  | .atomicDwStxOrFetch dst src _ => [dst, src]
  | .atomicDwStxAnd dst src _ => [dst, src]
  | .atomicDwStxAndFetch dst src _ => [dst, src]
  | .atomicDwStxXor dst src _ => [dst, src]
  | .atomicDwStxXorFetch dst src _ => [dst, src]
  | .atomicDwStxXchg dst src _ => [dst, src]
  | .atomicDwStxCmpxchg dst src _ => [dst, src]
  | .immNext _ => []
  | .immDwLdImm64 dst _ _ => [dst]
  | .immDwLdMapfd dst _ => [dst]
  | .immDwLdMapfdVal dst _ _ => [dst]
  | .immDwLdVaraddr dst _ => [dst]
  | .immDwLdCodeaddr dst _ => [dst]
  | .immDwLdMapidx dst _ => [dst]
  | .immDwLdMapidxVal dst _ _ => [dst]
  | .absWLd _ => []
  | .absHLd _ => []
  | .absBLd _ => []
  | .indWLd src _ => [src]
  | .indHLd src _ => [src]
  | .indBLd src _ => [src]

/-- A register number that exists: 0 to 10 (10_state.md R30, R34). -/
abbrev Reg.Valid (r : Reg) : Prop := r.toNat ≤ 10

/-- Every register number that the instruction names exists (10_state.md R34). -/
abbrev Instr.WellFormed (i : Instr) : Prop := ∀ r ∈ i.regs, r.Valid

end Sys2Proof
end

