-- ==== Sys2Proof/Machine/Ops.lean ====
section
/-! DEFINITION. The named operations over registers, memory, the call stack and the run (00_scope.md R19), and raising a
fault, the one shared operation that ends a run (60_exceptions.md R461). The machine takes no exception and returns from
none (R460, R475, R476): there is no saved state, no mode and no handler to model. -/

namespace Sys2Proof.Machine

/-! ### Updates of one field -/

/-- Replace the registers. -/
def State.setRegs (s : State) (v : Vector (Option Word) 11) : State := { s with regs := v }

/-- Replace the program counter. -/
def State.setPc (s : State) (v : Int) : State := { s with pc := v }

/-- Replace the call stack. -/
def State.setCalls (s : State) (v : List Frame) : State := { s with calls := v }

/-- Replace data memory. -/
def State.setMem (s : State) (v : Memory) : State := { s with mem := v }

/-- Replace the status of the run. -/
def State.setStatus (s : State) (v : RunStatus) : State := { s with status := v }

/-- Replace the environment's coming stores. -/
def State.setInterference (s : State) (v : List (List Host.Cell)) : State := { s with interference := v }

/-- Replace the helpers' coming acts. -/
def State.setHelperActs (s : State) (v : List HelperAct) : State := { s with helperActs := v }

/-- Replace the record of the stacks in use. -/
def State.setStackTops (s : State) (v : List Word) : State := { s with stackTops := v }

/-- Replace the counter of free values. -/
def State.setFreeIdx (s : State) (v : Nat) : State := { s with freeIdx := v }

/-! ### Raising a fault -/

/-- How a meaning ends: in the next state, or in a fault, which leaves nothing of what the instruction did
(60_exceptions.md R461). -/
def outcome : Except Fault State → Result
  | .ok s => .next s
  | .error f => .fault f

/-- The checks of 60_exceptions.md R462 that come before an instruction's own rule: the register numbers exist (R463), and
the group is supported (R466). -/
def permit (s : State) (g : ConfGroup) (regs : List Reg) : Except Fault Unit :=
  if regs.all fun r => decide (r.toNat ≤ 10) then
    if supports s.platform.groups g then .ok () else .error (.unsupportedGroup g)
  else .error (.illegalInstruction s.pc)

/-! ### Registers and the program counter -/

/-- What register `r` holds; `none` where it holds no value (10_state.md R35) or does not exist. -/
def State.reg (s : State) (r : Reg) : Option Word := if h : r.toNat < 11 then s.regs[r.toNat] else none

/-- Reading `x[r]` (10_state.md R35, 60_exceptions.md R467). -/
def readReg (s : State) (r : Reg) : Except Fault Word :=
  match s.reg r with
  | some v => .ok v
  | none => .error (.uninitRegister r)

/-- Registers with `x[r]` replaced by `v`, which may be "holds no value". -/
def putReg (regs : Vector (Option Word) 11) (r : Reg) (v : Option Word) : Vector (Option Word) 11 :=
  if h : r.toNat < 11 then regs.set r.toNat v else regs

/-- `x[r] <- v` (00_scope.md R19). -/
def State.writeReg (s : State) (r : Reg) (v : Word) : State := s.setRegs (putReg s.regs r (some v))

/-- `pc <- next_pc` of a basic instruction (10_state.md R41). -/
def State.advance (s : State) : State := s.setPc (s.pc + 1)

/-- `pc <- next_pc` of a wide instruction (10_state.md R41). -/
def State.advanceWide (s : State) : State := s.setPc (s.pc + 2)

/-- `pc <- next_pc + d` of a basic instruction (43_jump.md R280). -/
def State.jump (s : State) (d : Int) : State := s.setPc (s.pc + 1 + d)

/-- The end of every instruction that writes one register and goes on at `next_pc`. -/
def State.finish (s : State) (dst : Reg) (v : Word) : State := (s.writeReg dst v).advance

/-! ### Data memory -/

/-- The byte at an address: the one written there last, or the free value of log 7 (10_state.md R52). -/
def byteAt (s : State) (a : Word) : Byte := (Memory.get? s.mem a.toNat).getD (Config.unwrittenByte a.toNat)

/-- The permission that an access needs (20_memory.md R66, R70): an atomic both reads and writes. -/
def regionPermits (r : Region) : MemKind → Bool
  | .read => r.readable
  | .write => r.writable
  | .atomic => r.readable && r.writable
  | .misaligned => false

/-- Whether the `n` bytes at `addr` lie inside a region. -/
def regionSpans (r : Region) (addr : Word) (n : Nat) : Bool :=
  decide (r.base.toNat ≤ addr.toNat) && decide (addr.toNat + n ≤ r.base.toNat + r.len)

/-- MemAdmit (20_memory.md R66): all bytes inside one region with the permission, and `addr + n <= 2^64` (R79). -/
def admits (p : Platform) (addr : Word) (n : Nat) (k : MemKind) : Bool :=
  decide (addr.toNat + n ≤ 2 ^ 64) && p.regions.any fun r => regionSpans r addr n && regionPermits r k

/-- Each of `n` bytes from `addr` up is admitted by itself; a byte that is not is the fault (20_memory.md R65, `split`). -/
def checkBytes (p : Platform) (addr : Word) (k : MemKind) : Nat → Except Fault Unit
  | 0 => .ok ()
  | n + 1 => if admits p addr 1 k then checkBytes p (addr + 1) k n else .error (.memFault addr 1 k)

/-- The checks of an access (20_memory.md R65, R66), misaligned before not-admitted (60_exceptions.md R474). A misaligned
access that `split` performs byte by byte must not span the wrap of the address space (R79, log 13). -/
def checkAccess (p : Platform) (addr : Word) (n : Nat) (k : MemKind) : Except Fault Unit :=
  if addr.toNat % n = 0 then
    if admits p addr n k then .ok () else .error (.memFault addr n k)
  else if p.misaligned = .split ∧ k ≠ .atomic then
    if addr.toNat + n ≤ 2 ^ 64 then checkBytes p addr k n else .error (.memFault addr n k)
  else .error (.memFault addr n .misaligned)

/-- The value held by the bytes at `addr`, zero-extended (20_memory.md R61). -/
def loadValue (s : State) (addr : Word) (size : Size) : Word :=
  assemble s.platform.endian ((List.range size.bytes).map fun k => byteAt s (addr + BitVec.ofNat 64 k))

/-- The state after the low bytes of `v` are stored at `addr` (20_memory.md R62). -/
def storeValue (s : State) (addr : Word) (size : Size) (v : Word) : State :=
  s.setMem (Memory.store s.mem addr (disassemble s.platform.endian size.bytes v))

/-- `MemRead(addr, n)` (20_memory.md R61), zero-extended. -/
def memRead (s : State) (addr : Word) (size : Size) : Except Fault Word := do
  checkAccess s.platform addr size.bytes .read
  return loadValue s addr size

/-- `MemWrite(addr, n, v)` of the low bytes of `v` (20_memory.md R62). -/
def memWrite (s : State) (addr : Word) (size : Size) (v : Word) : Except Fault State := do
  checkAccess s.platform addr size.bytes .write
  return storeValue s addr size v

/-- `AtomicRMW(addr, n, f)` (20_memory.md R70): the old value, and the state after the new one is stored. -/
def atomicRMW (s : State) (addr : Word) (size : Size) (f : Word → Word) : Except Fault (Word × State) := do
  checkAccess s.platform addr size.bytes .atomic
  let old := loadValue s addr size
  return (old, storeValue s addr size (f old))

/-! ### The environment -/

/-- A byte that the environment may replace: inside a shared region and inside no private one (20_memory.md R72, log 25). -/
def environmentByte (p : Platform) (a : Nat) : Bool :=
  decide (a < 2 ^ 64) && (p.regions.any fun r => r.shared && regionSpans r (BitVec.ofNat 64 a) 1) &&
    !(p.regions.any fun r => !r.shared && regionSpans r (BitVec.ofNat 64 a) 1)

/-- What the environment does between two steps (20_memory.md R72): the next entry of its stores, so far as they fall on
bytes that it may replace. -/
def State.interfere (s : State) : State :=
  match s.interference with
  | [] => s
  | cells :: rest =>
    (s.setMem (Memory.storeCells s.mem (cells.filter fun c => environmentByte s.platform c.1))).setInterference rest

/-! ### The platform's tables -/

/-- Whether a helper table has an entry (00_scope.md R10). -/
def hasHelper (t : IdSet) (i : BitVec 32) : Bool := t.ids.contains i || t.others

/-- The value of an address function, or absent (00_scope.md R10): the listed entry, else the free value where the table is
an open one. -/
def lookup {κ : Type} [DecidableEq κ] (t : Table κ) (free : κ → Word) (k : κ) : Option Word :=
  match t.entries.find? fun e => decide (e.1 = k) with
  | some e => some e.2
  | none => if t.openWorld then some (free k) else none

/-- Raise `PlatformLookup` where an address function is absent (60_exceptions.md R469). -/
def demandAddress (subtype : BitVec 4) (imm : Imm) : Option Word → Except Fault Word
  | some a => .ok a
  | none => .error (.platformLookup subtype imm)

/-! ### Calls -/

/-- Registers after a call: r1 to r5 hold no value (44_call_exit.md R344, R345). -/
def dropArguments (regs : Vector (Option Word) 11) : Vector (Option Word) 11 :=
  putReg (putReg (putReg (putReg (putReg regs 1 none) 2 none) 3 none) 4 none) 5 none

/-- Registers that hold values only where a helper's description names them (44_call_exit.md R344, isa_only). -/
def namedOnly (named : List (Fin 11 × Word)) : Vector (Option Word) 11 :=
  named.foldl (fun regs e => regs.set e.1.val (some e.2)) (Vector.replicate 11 none)

/-- Registers after a helper returns (44_call_exit.md R344). -/
def helperRegs (conv : CallConv) (regs : Vector (Option Word) 11) (result : Word) (named : List (Fin 11 × Word)) :
    Vector (Option Word) 11 :=
  match conv with
  | .linux => dropArguments (putReg regs 0 (some result))
  | .isaOnly => namedOnly named

/-- A byte that a helper may store to (44_call_exit.md R344, log 26): under linux one that may be written, under isa_only, where
nothing is assumed, every byte of data memory. -/
def helperByte (p : Platform) (a : Nat) : Bool :=
  decide (a < 2 ^ 64) &&
    match p.callConv with
    | .linux => admits p (BitVec.ofNat 64 a) 1 .write
    | .isaOnly => true

/-- The state after a helper returns, before `pc` goes on (44_call_exit.md R344). -/
def State.helperReturn (s : State) (result : Word) (named : List (Fin 11 × Word)) (writes : List Host.Cell) : State :=
  (s.setRegs (helperRegs s.platform.callConv s.regs result named)).setMem
    (Memory.storeCells s.mem (writes.filter fun c => helperByte s.platform c.1))

/-- Calling helper `imm` (44_call_exit.md R340, R342, R344): a missing id is `UnknownHelper`; otherwise the next listed act
says what the helper does, and where none is listed its result, registers and stores are free values. -/
def callHelper (s : State) (ids : IdSet) (imm : Imm) : Except Fault State :=
  if hasHelper ids imm then
    match s.helperActs with
    | .returns result named writes :: rest => .ok ((s.setHelperActs rest).helperReturn result named writes)
    | .fault :: _ => .error (.helperFault imm)
    | [] =>
      .ok ((s.setFreeIdx (s.freeIdx + 1)).helperReturn (Config.helperResult s.freeIdx) (Config.helperNamed s.freeIdx)
        (Config.helperWrites s.freeIdx))
  else .error (.unknownHelper imm)

/-- Whether one more program-local call may be active (44_call_exit.md R341, R346). -/
def State.mayCall (s : State) : Bool :=
  match s.platform.maxCallDepth with
  | none => true
  | some bound => decide (s.calls.length < bound)

/-- Whether a byte range meets the stack region of `size` bytes below a frame pointer (44_call_exit.md R345). -/
def meetsStack (size : Nat) (top : Word) (lo hi : Nat) : Bool := decide (max (top.toNat - size) lo < min top.toNat hi)

/-- The STACK_SIZE bytes below a frame pointer exist, and none of them belongs to the stack of an active function
(44_call_exit.md R345). -/
def apartTop (s : State) (top : Word) : Bool :=
  decide (s.platform.stackSize ≤ top.toNat) &&
    s.stackTops.all fun t => !meetsStack s.platform.stackSize top (t.toNat - s.platform.stackSize) t.toNat

/-- Besides, none of those bytes belongs to a shared region (20_memory.md R72). -/
def privateTop (s : State) (top : Word) : Bool :=
  apartTop s top &&
    s.platform.regions.all fun r =>
      !(r.shared && meetsStack s.platform.stackSize top r.base.toNat (r.base.toNat + r.len))

/-- A region supplied at launch that is private and may be read and written holds the STACK_SIZE bytes below a frame pointer
(44_call_exit.md R345, 20_memory.md R66). -/
def providesStack (p : Platform) (top : Word) : Bool :=
  p.regions.any fun r =>
    !r.shared && r.readable && r.writable && decide (r.base.toNat + p.stackSize ≤ top.toNat) &&
      decide (top.toNat ≤ r.base.toNat + r.len)

/-- A fresh frame pointer (44_call_exit.md R345): a stack below it is supplied, and it is private to the callee. -/
def freshTop (s : State) (top : Word) : Bool := privateTop s top && providesStack s.platform top

/-- The lowest frame pointers that the bounds of a fresh one allow: STACK_SIZE bytes above the bottom of memory, the stacks in use, and
both ends of the regions. Where a frame pointer is fresh, one of these is (`exists_edge`). -/
def stackEdges (s : State) : List Word :=
  (0 :: s.stackTops.map BitVec.toNat ++ s.platform.regions.map (fun r => r.base.toNat) ++
    s.platform.regions.map fun r => r.base.toNat + r.len).map fun lo => BitVec.ofNat 64 (lo + s.platform.stackSize)

/-- The frame pointers from which that of a callee is taken, the first choice first (log 11): the one that the platform lists for this
depth, the free value, and the edges. -/
def stackChoices (s : State) : List Word :=
  s.platform.framePointers[s.calls.length]?.toList ++ Config.framePointer s.freeIdx :: stackEdges s

/-- The fresh frame pointer of a callee, "chosen by the platform" (44_call_exit.md R345): the first choice that is fresh. On a platform
that has no fresh one left it is still private, or else still apart from the stacks in use, wherever there is one (log 11). -/
def calleeFramePointer (s : State) : Word :=
  ((((stackChoices s).find? (freshTop s)).or ((stackChoices s).find? (privateTop s))).or
    ((stackChoices s).find? (apartTop s))).getD (Config.framePointer s.freeIdx)

/-- The frame that a program-local call pushes (44_call_exit.md R341). -/
def State.frame (s : State) (ret : Int) : Frame :=
  match s.platform.callConv with
  | .isaOnly => .isaOnly ret
  | .linux => .linux ret (s.reg 6) (s.reg 7) (s.reg 8) (s.reg 9) (s.reg 10)

/-- The callee's registers (44_call_exit.md R345): under linux r6 to r9 hold no value and r10 is a new frame pointer, the top of a stack
that is in use from now on. -/
def State.enterCallee (s : State) : State :=
  match s.platform.callConv with
  | .isaOnly => s
  | .linux =>
    ((s.setRegs (putReg (putReg (putReg (putReg (putReg s.regs 6 none) 7 none) 8 none) 9 none) 10
      (some (calleeFramePointer s)))).setStackTops (calleeFramePointer s :: s.stackTops)).setFreeIdx (s.freeIdx + 1)

/-- The program-local call with return slot `ret` and displacement `d` (44_call_exit.md R341). -/
def callLocal (s : State) (d : Int) : Except Fault State :=
  if s.mayCall then .ok ((s.enterCallee.setCalls (s.frame (s.pc + 1) :: s.calls)).jump d)
  else .error .callDepth

/-- Where a frame returns to. -/
def Frame.ret : Frame → Int
  | .isaOnly ret => ret
  | .linux ret _ _ _ _ _ => ret

/-- `restore(f)` (44_call_exit.md R343, R345): r6 to r10 as saved, and no values in r1 to r5. -/
def Frame.restore (f : Frame) (regs : Vector (Option Word) 11) : Vector (Option Word) 11 :=
  match f with
  | .isaOnly _ => regs
  | .linux _ r6 r7 r8 r9 r10 =>
    putReg (putReg (putReg (putReg (putReg (dropArguments regs) 6 r6) 7 r7) 8 r8) 9 r9) 10 r10

/-- The stacks in use after the EXIT that matches a frame: the callee's is given back (44_call_exit.md R345). -/
def Frame.leave (f : Frame) (tops : List Word) : List Word :=
  match f with
  | .isaOnly _ => tops
  | .linux _ _ _ _ _ _ => tops.tail

/-- The end of a run (10_state.md R54): under linux the result is x[0], which must hold a value. -/
def endRun (s : State) : Except Fault State :=
  match s.platform.callConv with
  | .isaOnly => .ok (s.setStatus (.ended none))
  | .linux => do
    let v ← readReg s 0
    return s.setStatus (.ended (some v))

/-- EXIT (44_call_exit.md R343): the end of the run where no call is active, else the return to the newest caller. -/
def returnOrEnd (s : State) : Except Fault State :=
  match s.calls with
  | [] => endRun s
  | f :: rest => .ok ((((s.setRegs (f.restore s.regs)).setCalls rest).setStackTops (f.leave s.stackTops)).setPc f.ret)

end Sys2Proof.Machine
end

