-- ==== Sys2Proof/Machine/Operands.lean ====
section
/-! DEFINITION. How fields become operands (30_encoding.md R108): the K and X source operands at both widths, the effective
address, the displacement of a jump, the datum of a store, the shift amount, the 64-bit immediate. -/

namespace Sys2Proof.Machine

/-- The low 32 bits `w[i]` of a register's value (10_state.md R32). -/
def low32 (v : Word) : Word32 := v.setWidth 32

/-- A 32-bit result as a register's value, the upper 32 bits zeroed (10_state.md R32). -/
def zext32 (v : Word32) : Word := v.setWidth 64

/-- `sext_64` of a 32-bit immediate (00_scope.md R16, 40_alu32.md R147). -/
def sextImm (imm : Imm) : Word := imm.signExtend 64

/-- `sext_64` of a 16-bit offset (45_load_store.md R360). -/
def sextOff (off : Off) : Word := off.signExtend 64

/-- The second operand of an arithmetic instruction or a conditional jump (30_encoding.md R101): K or X. -/
inductive Source where
  | k (imm : Imm)
  | x (src : Reg)
  deriving DecidableEq, Repr

/-- The register numbers that a source operand names. -/
def Source.regs : Source → List Reg
  | .k _ => []
  | .x src => [src]

/-- The 64-bit source operand: `sext_64(imm)` or `x[src]` (40_alu32.md R147, 43_jump.md R282). -/
def Source.value64 (s : State) : Source → Except Fault Word
  | .k imm => .ok (sextImm imm)
  | .x src => readReg s src

/-- The 32-bit source operand: `imm` or `w[src]` (40_alu32.md R141, 43_jump.md R281, R282). -/
def Source.value32 (s : State) : Source → Except Fault Word32
  | .k imm => .ok imm
  | .x src => (readReg s src).map low32

/-- The address of a load, store or atomic: base plus sign-extended offset, modulo 2^64 (45_load_store.md R360). -/
def effectiveAddress (base : Word) (off : Off) : Word := base + sextOff off

/-- The displacement of a jump in slots, from a 16-bit field (43_jump.md R280). -/
def offDisplacement (off : Off) : Int := off.toInt

/-- The displacement of a jump or call in slots, from a 32-bit field (43_jump.md R287, 44_call_exit.md R341). -/
def immDisplacement (imm : Imm) : Int := imm.toInt

/-- `next_imm ++ imm` (47_imm64.md R432). -/
def imm64 (imm nextImm : Imm) : Word := nextImm ++ imm

/-- The shift amount of an `n`-bit operation: the source masked with 0x1F or 0x3F (40_alu32.md R146). -/
def shiftAmount {n : Nat} (b : BitVec n) : Nat := b.toNat &&& (n - 1)

end Sys2Proof.Machine
end

