-- ==== Sys2Proof/Machine/Arith.lean ====
section
/-! DEFINITION. The arithmetic laws (40_alu32.md R140 to R147), for operands of `n` bits: 32 in class ALU, 64 in ALU64. -/

namespace Sys2Proof.Machine

variable {n : Nat}

/-- ADD: wraps (40_alu32.md R140). -/
def arithAdd (a b : BitVec n) : BitVec n := a + b

/-- SUB: wraps (40_alu32.md R140). -/
def arithSub (a b : BitVec n) : BitVec n := a - b

/-- MUL: wraps (40_alu32.md R140). -/
def arithMul (a b : BitVec n) : BitVec n := a * b

/-- DIV: unsigned, zero for a zero divisor (40_alu32.md R142, R144). -/
def arithDiv (a b : BitVec n) : BitVec n := if b.toNat = 0 then 0 else BitVec.ofNat n (a.toNat / b.toNat)

/-- SDIV: truncated, zero for a zero divisor, wrapping at the one overflow (40_alu32.md R142, R145). -/
def arithSdiv (a b : BitVec n) : BitVec n := if b.toInt = 0 then 0 else BitVec.ofInt n (a.toInt.tdiv b.toInt)

/-- OR. -/
def arithOr (a b : BitVec n) : BitVec n := a ||| b

/-- AND. -/
def arithAnd (a b : BitVec n) : BitVec n := a &&& b

/-- LSH: the amount is masked (40_alu32.md R146). -/
def arithLsh (a b : BitVec n) : BitVec n := a <<< shiftAmount b

/-- RSH: logical, the amount masked (40_alu32.md R146). -/
def arithRsh (a b : BitVec n) : BitVec n := a >>> shiftAmount b

/-- NEG: wraps (40_alu32.md R140). -/
def arithNeg (a : BitVec n) : BitVec n := 0 - a

/-- MOD: unsigned, the dividend for a zero divisor (40_alu32.md R143, R144). -/
def arithMod (a b : BitVec n) : BitVec n := if b.toNat = 0 then a else BitVec.ofNat n (a.toNat % b.toNat)

/-- SMOD: the remainder of truncated division, the dividend for a zero divisor (40_alu32.md R143, R145). -/
def arithSmod (a b : BitVec n) : BitVec n :=
  if b.toInt = 0 then a else BitVec.ofInt n (a.toInt - b.toInt * a.toInt.tdiv b.toInt)

/-- XOR. -/
def arithXor (a b : BitVec n) : BitVec n := a ^^^ b

/-- ARSH: sign-extending, the amount masked (40_alu32.md R146). -/
def arithArsh (a b : BitVec n) : BitVec n := a.sshiftRight (shiftAmount b)

/-- `sext` of the low `k` bits to `n` bits (MOVSX, 40_alu32.md R147; sign-extending loads, 45_load_store.md R374). -/
def sextLow (k n : Nat) (v : Word) : BitVec n := (v.setWidth k).signExtend n

end Sys2Proof.Machine
end

