-- ==== Sys2Proof/Machine/Alu32.lean ====
section
/-! DEFINITION. The 31 instructions of class ALU (40_alu32.md R149 to R180). -/

namespace Sys2Proof.Machine

/-- A binary operation of class ALU (40_alu32.md R141, R149): both operands are read before `x[dst]` is written (R148). -/
def alu32 (g : ConfGroup) (f : Word32 → Word32 → Word32) (dst : Reg) (b : Source) (s : State) : Result :=
  outcome do
    permit s g (dst :: b.regs)
    let x ← readReg s dst
    let y ← b.value32 s
    return s.finish dst (zext32 (f (low32 x) y))

/-- NEG in class ALU (40_alu32.md R168). -/
def neg32 (g : ConfGroup) (dst : Reg) (s : State) : Result :=
  outcome do
    permit s g [dst]
    let x ← readReg s dst
    return s.finish dst (zext32 (arithNeg (low32 x)))

/-- MOV in class ALU: `x[dst]` is not read (40_alu32.md R175, R176). -/
def mov32 (g : ConfGroup) (dst : Reg) (b : Source) (s : State) : Result :=
  outcome do
    permit s g (dst :: b.regs)
    let y ← b.value32 s
    return s.finish dst (zext32 y)

/-- MOVSX of the low `k` bits in class ALU (40_alu32.md R177, R178). -/
def movsx32 (g : ConfGroup) (k : Nat) (dst src : Reg) (s : State) : Result :=
  outcome do
    permit s g [dst, src]
    let y ← readReg s src
    return s.finish dst (zext32 (sextLow k 32 y))

/-- `ADD_K_ALU` (40_alu32.md R150). -/
def execAddKAlu (dst : Reg) (imm : Imm) (s : State) : Result := alu32 .base32 arithAdd dst (.k imm) s

/-- `ADD_X_ALU` (40_alu32.md R151). -/
def execAddXAlu (dst src : Reg) (s : State) : Result := alu32 .base32 arithAdd dst (.x src) s

/-- `SUB_K_ALU` (40_alu32.md R152). -/
def execSubKAlu (dst : Reg) (imm : Imm) (s : State) : Result := alu32 .base32 arithSub dst (.k imm) s

/-- `SUB_X_ALU` (40_alu32.md R153). -/
def execSubXAlu (dst src : Reg) (s : State) : Result := alu32 .base32 arithSub dst (.x src) s

/-- `MUL_K_ALU` (40_alu32.md R154). -/
def execMulKAlu (dst : Reg) (imm : Imm) (s : State) : Result := alu32 .divmul32 arithMul dst (.k imm) s

/-- `MUL_X_ALU` (40_alu32.md R155). -/
def execMulXAlu (dst src : Reg) (s : State) : Result := alu32 .divmul32 arithMul dst (.x src) s

/-- `DIV_K_ALU` (40_alu32.md R156). -/
def execDivKAlu (dst : Reg) (imm : Imm) (s : State) : Result := alu32 .divmul32 arithDiv dst (.k imm) s

/-- `DIV_X_ALU` (40_alu32.md R157). -/
def execDivXAlu (dst src : Reg) (s : State) : Result := alu32 .divmul32 arithDiv dst (.x src) s

/-- `SDIV_K_ALU` (40_alu32.md R158). -/
def execSdivKAlu (dst : Reg) (imm : Imm) (s : State) : Result := alu32 .divmul32 arithSdiv dst (.k imm) s

/-- `SDIV_X_ALU` (40_alu32.md R159). -/
def execSdivXAlu (dst src : Reg) (s : State) : Result := alu32 .divmul32 arithSdiv dst (.x src) s

/-- `OR_K_ALU` (40_alu32.md R160). -/
def execOrKAlu (dst : Reg) (imm : Imm) (s : State) : Result := alu32 .base32 arithOr dst (.k imm) s

/-- `OR_X_ALU` (40_alu32.md R161). -/
def execOrXAlu (dst src : Reg) (s : State) : Result := alu32 .base32 arithOr dst (.x src) s

/-- `AND_K_ALU` (40_alu32.md R162). -/
def execAndKAlu (dst : Reg) (imm : Imm) (s : State) : Result := alu32 .base32 arithAnd dst (.k imm) s

/-- `AND_X_ALU` (40_alu32.md R163). -/
def execAndXAlu (dst src : Reg) (s : State) : Result := alu32 .base32 arithAnd dst (.x src) s

/-- `LSH_K_ALU` (40_alu32.md R164). -/
def execLshKAlu (dst : Reg) (imm : Imm) (s : State) : Result := alu32 .base32 arithLsh dst (.k imm) s

/-- `LSH_X_ALU` (40_alu32.md R165). -/
def execLshXAlu (dst src : Reg) (s : State) : Result := alu32 .base32 arithLsh dst (.x src) s

/-- `RSH_K_ALU` (40_alu32.md R166). -/
def execRshKAlu (dst : Reg) (imm : Imm) (s : State) : Result := alu32 .base32 arithRsh dst (.k imm) s

/-- `RSH_X_ALU` (40_alu32.md R167). -/
def execRshXAlu (dst src : Reg) (s : State) : Result := alu32 .base32 arithRsh dst (.x src) s

/-- `NEG_K_ALU` (40_alu32.md R168). -/
def execNegKAlu (dst : Reg) (s : State) : Result := neg32 .base32 dst s

/-- `MOD_K_ALU` (40_alu32.md R169). -/
def execModKAlu (dst : Reg) (imm : Imm) (s : State) : Result := alu32 .divmul32 arithMod dst (.k imm) s

/-- `MOD_X_ALU` (40_alu32.md R170). -/
def execModXAlu (dst src : Reg) (s : State) : Result := alu32 .divmul32 arithMod dst (.x src) s

/-- `SMOD_K_ALU` (40_alu32.md R171). -/
def execSmodKAlu (dst : Reg) (imm : Imm) (s : State) : Result := alu32 .divmul32 arithSmod dst (.k imm) s

/-- `SMOD_X_ALU` (40_alu32.md R172). -/
def execSmodXAlu (dst src : Reg) (s : State) : Result := alu32 .divmul32 arithSmod dst (.x src) s

/-- `XOR_K_ALU` (40_alu32.md R173). -/
def execXorKAlu (dst : Reg) (imm : Imm) (s : State) : Result := alu32 .base32 arithXor dst (.k imm) s

/-- `XOR_X_ALU` (40_alu32.md R174). -/
def execXorXAlu (dst src : Reg) (s : State) : Result := alu32 .base32 arithXor dst (.x src) s

/-- `MOV_K_ALU` (40_alu32.md R175). -/
def execMovKAlu (dst : Reg) (imm : Imm) (s : State) : Result := mov32 .base32 dst (.k imm) s

/-- `MOV_X_ALU` (40_alu32.md R176). -/
def execMovXAlu (dst src : Reg) (s : State) : Result := mov32 .base32 dst (.x src) s

/-- `MOVSX8_X_ALU` (40_alu32.md R177). -/
def execMovsx8XAlu (dst src : Reg) (s : State) : Result := movsx32 .base32 8 dst src s

/-- `MOVSX16_X_ALU` (40_alu32.md R178). -/
def execMovsx16XAlu (dst src : Reg) (s : State) : Result := movsx32 .base32 16 dst src s

/-- `ARSH_K_ALU` (40_alu32.md R179). -/
def execArshKAlu (dst : Reg) (imm : Imm) (s : State) : Result := alu32 .base32 arithArsh dst (.k imm) s

/-- `ARSH_X_ALU` (40_alu32.md R180). -/
def execArshXAlu (dst src : Reg) (s : State) : Result := alu32 .base32 arithArsh dst (.x src) s

end Sys2Proof.Machine
end

