-- ==== Sys2Proof/Machine/Alu64.lean ====
section
/-! DEFINITION. The 32 instructions of class ALU64 (40_alu32.md R149, 41_alu64.md R210 to R241). -/

namespace Sys2Proof.Machine

/-- A binary operation of class ALU64 (40_alu32.md R141, R147, R149): both operands are read before `x[dst]` is written (R148). -/
def alu64 (g : ConfGroup) (f : Word → Word → Word) (dst : Reg) (b : Source) (s : State) : Result :=
  outcome do
    permit s g (dst :: b.regs)
    let x ← readReg s dst
    let y ← b.value64 s
    return s.finish dst (f x y)

/-- NEG in class ALU64 (41_alu64.md R228). -/
def neg64 (g : ConfGroup) (dst : Reg) (s : State) : Result :=
  outcome do
    permit s g [dst]
    let x ← readReg s dst
    return s.finish dst (arithNeg x)

/-- MOV in class ALU64: `x[dst]` is not read (41_alu64.md R235, R236). -/
def mov64 (g : ConfGroup) (dst : Reg) (b : Source) (s : State) : Result :=
  outcome do
    permit s g (dst :: b.regs)
    let y ← b.value64 s
    return s.finish dst y

/-- MOVSX of the low `k` bits in class ALU64 (41_alu64.md R237 to R239). -/
def movsx64 (g : ConfGroup) (k : Nat) (dst src : Reg) (s : State) : Result :=
  outcome do
    permit s g [dst, src]
    let y ← readReg s src
    return s.finish dst (sextLow k 64 y)

/-- `ADD_K_ALU64` (41_alu64.md R210). -/
def execAddKAlu64 (dst : Reg) (imm : Imm) (s : State) : Result := alu64 .base64 arithAdd dst (.k imm) s

/-- `ADD_X_ALU64` (41_alu64.md R211). -/
def execAddXAlu64 (dst src : Reg) (s : State) : Result := alu64 .base64 arithAdd dst (.x src) s

/-- `SUB_K_ALU64` (41_alu64.md R212). -/
def execSubKAlu64 (dst : Reg) (imm : Imm) (s : State) : Result := alu64 .base64 arithSub dst (.k imm) s

/-- `SUB_X_ALU64` (41_alu64.md R213). -/
def execSubXAlu64 (dst src : Reg) (s : State) : Result := alu64 .base64 arithSub dst (.x src) s

/-- `MUL_K_ALU64` (41_alu64.md R214). -/
def execMulKAlu64 (dst : Reg) (imm : Imm) (s : State) : Result := alu64 .divmul64 arithMul dst (.k imm) s

/-- `MUL_X_ALU64` (41_alu64.md R215). -/
def execMulXAlu64 (dst src : Reg) (s : State) : Result := alu64 .divmul64 arithMul dst (.x src) s

/-- `DIV_K_ALU64` (41_alu64.md R216). -/
def execDivKAlu64 (dst : Reg) (imm : Imm) (s : State) : Result := alu64 .divmul64 arithDiv dst (.k imm) s

/-- `DIV_X_ALU64` (41_alu64.md R217). -/
def execDivXAlu64 (dst src : Reg) (s : State) : Result := alu64 .divmul64 arithDiv dst (.x src) s

/-- `SDIV_K_ALU64` (41_alu64.md R218). -/
def execSdivKAlu64 (dst : Reg) (imm : Imm) (s : State) : Result := alu64 .divmul64 arithSdiv dst (.k imm) s

/-- `SDIV_X_ALU64` (41_alu64.md R219). -/
def execSdivXAlu64 (dst src : Reg) (s : State) : Result := alu64 .divmul64 arithSdiv dst (.x src) s

/-- `OR_K_ALU64` (41_alu64.md R220). -/
def execOrKAlu64 (dst : Reg) (imm : Imm) (s : State) : Result := alu64 .base64 arithOr dst (.k imm) s

/-- `OR_X_ALU64` (41_alu64.md R221). -/
def execOrXAlu64 (dst src : Reg) (s : State) : Result := alu64 .base64 arithOr dst (.x src) s

/-- `AND_K_ALU64` (41_alu64.md R222). -/
def execAndKAlu64 (dst : Reg) (imm : Imm) (s : State) : Result := alu64 .base64 arithAnd dst (.k imm) s

/-- `AND_X_ALU64` (41_alu64.md R223). -/
def execAndXAlu64 (dst src : Reg) (s : State) : Result := alu64 .base64 arithAnd dst (.x src) s

/-- `LSH_K_ALU64` (41_alu64.md R224). -/
def execLshKAlu64 (dst : Reg) (imm : Imm) (s : State) : Result := alu64 .base64 arithLsh dst (.k imm) s

/-- `LSH_X_ALU64` (41_alu64.md R225). -/
def execLshXAlu64 (dst src : Reg) (s : State) : Result := alu64 .base64 arithLsh dst (.x src) s

/-- `RSH_K_ALU64` (41_alu64.md R226). -/
def execRshKAlu64 (dst : Reg) (imm : Imm) (s : State) : Result := alu64 .base64 arithRsh dst (.k imm) s

/-- `RSH_X_ALU64` (41_alu64.md R227). -/
def execRshXAlu64 (dst src : Reg) (s : State) : Result := alu64 .base64 arithRsh dst (.x src) s

/-- `NEG_K_ALU64` (41_alu64.md R228). -/
def execNegKAlu64 (dst : Reg) (s : State) : Result := neg64 .base64 dst s

/-- `MOD_K_ALU64` (41_alu64.md R229). -/
def execModKAlu64 (dst : Reg) (imm : Imm) (s : State) : Result := alu64 .divmul64 arithMod dst (.k imm) s

/-- `MOD_X_ALU64` (41_alu64.md R230). -/
def execModXAlu64 (dst src : Reg) (s : State) : Result := alu64 .divmul64 arithMod dst (.x src) s

/-- `SMOD_K_ALU64` (41_alu64.md R231). -/
def execSmodKAlu64 (dst : Reg) (imm : Imm) (s : State) : Result := alu64 .divmul64 arithSmod dst (.k imm) s

/-- `SMOD_X_ALU64` (41_alu64.md R232). -/
def execSmodXAlu64 (dst src : Reg) (s : State) : Result := alu64 .divmul64 arithSmod dst (.x src) s

/-- `XOR_K_ALU64` (41_alu64.md R233). -/
def execXorKAlu64 (dst : Reg) (imm : Imm) (s : State) : Result := alu64 .base64 arithXor dst (.k imm) s

/-- `XOR_X_ALU64` (41_alu64.md R234). -/
def execXorXAlu64 (dst src : Reg) (s : State) : Result := alu64 .base64 arithXor dst (.x src) s

/-- `MOV_K_ALU64` (41_alu64.md R235). -/
def execMovKAlu64 (dst : Reg) (imm : Imm) (s : State) : Result := mov64 .base64 dst (.k imm) s

/-- `MOV_X_ALU64` (41_alu64.md R236). -/
def execMovXAlu64 (dst src : Reg) (s : State) : Result := mov64 .base64 dst (.x src) s

/-- `MOVSX8_X_ALU64` (41_alu64.md R237). -/
def execMovsx8XAlu64 (dst src : Reg) (s : State) : Result := movsx64 .base64 8 dst src s

/-- `MOVSX16_X_ALU64` (41_alu64.md R238). -/
def execMovsx16XAlu64 (dst src : Reg) (s : State) : Result := movsx64 .base64 16 dst src s

/-- `MOVSX32_X_ALU64` (41_alu64.md R239). -/
def execMovsx32XAlu64 (dst src : Reg) (s : State) : Result := movsx64 .base64 32 dst src s

/-- `ARSH_K_ALU64` (41_alu64.md R240). -/
def execArshKAlu64 (dst : Reg) (imm : Imm) (s : State) : Result := alu64 .base64 arithArsh dst (.k imm) s

/-- `ARSH_X_ALU64` (41_alu64.md R241). -/
def execArshXAlu64 (dst src : Reg) (s : State) : Result := alu64 .base64 arithArsh dst (.x src) s

end Sys2Proof.Machine
end

