-- ==== Sys2Proof/Machine/Atomic.lean ====
section
/-! DEFINITION. The twenty atomics (46_atomic.md R390 to R413). Each is one step (R391). -/

namespace Sys2Proof.Machine

/-- The register operand as the new value (XCHG, 46_atomic.md R391). -/
def exchange {n : Nat} (_old new : BitVec n) : BitVec n := new

/-- A read-modify-write by `f` (46_atomic.md R391, R393): both registers are read first; with `fetch` the old value goes to
`x[src]`. -/
def atomicUpdate (g : ConfGroup) (size : Size) (f : Word → Word → Word) (fetch : Bool) (dst src : Reg) (off : Off)
    (s : State) : Result :=
  outcome do
    permit s g [dst, src]
    let base ← readReg s dst
    let v ← readReg s src
    let (old, t) ← atomicRMW s (effectiveAddress base off) size fun old => f old v
    return if fetch then t.finish src old else t.advance

/-- The 32-bit forms (46_atomic.md R392): the operand is `w[src]`, and the old value is zero-extended. -/
def atomicUpdate32 (g : ConfGroup) (f : Word32 → Word32 → Word32) (fetch : Bool) (dst src : Reg) (off : Off) (s : State) :
    Result :=
  atomicUpdate g .w (fun old v => zext32 (f (low32 old) (low32 v))) fetch dst src off s

/-- The 64-bit forms. -/
def atomicUpdate64 (g : ConfGroup) (f : Word → Word → Word) (fetch : Bool) (dst src : Reg) (off : Off) (s : State) : Result :=
  atomicUpdate g .dw f fetch dst src off s

/-- The comparand of CMPXCHG: `w[0]` for the 32-bit form, `x[0]` for the 64-bit one (46_atomic.md R392). -/
def comparand (size : Size) (v : Word) : Word := if size = .dw then v else zext32 (low32 v)

/-- CMPXCHG (46_atomic.md R391, R393): `x[dst]`, `x[src]` and `x[0]` are read first; `x[0]` receives the old value whether or
not the comparison succeeds. -/
def atomicCompare (g : ConfGroup) (size : Size) (dst src : Reg) (off : Off) (s : State) : Result :=
  outcome do
    permit s g [dst, src]
    let base ← readReg s dst
    let new ← readReg s src
    let r0 ← readReg s 0
    let (old, t) ← atomicRMW s (effectiveAddress base off) size fun old => if old = comparand size r0 then new else old
    return t.finish 0 old

/-- `ATOMIC_W_STX_ADD` (46_atomic.md R394). -/
def execAtomicWStxAdd (dst src : Reg) (off : Off) (s : State) : Result :=
  atomicUpdate32 .atomic32 arithAdd false dst src off s

/-- `ATOMIC_W_STX_ADD_FETCH` (46_atomic.md R395). -/
def execAtomicWStxAddFetch (dst src : Reg) (off : Off) (s : State) : Result :=
  atomicUpdate32 .atomic32 arithAdd true dst src off s

/-- `ATOMIC_W_STX_OR` (46_atomic.md R396). -/
def execAtomicWStxOr (dst src : Reg) (off : Off) (s : State) : Result :=
  atomicUpdate32 .atomic32 arithOr false dst src off s

/-- `ATOMIC_W_STX_OR_FETCH` (46_atomic.md R397). -/
def execAtomicWStxOrFetch (dst src : Reg) (off : Off) (s : State) : Result :=
  atomicUpdate32 .atomic32 arithOr true dst src off s

/-- `ATOMIC_W_STX_AND` (46_atomic.md R398). -/
def execAtomicWStxAnd (dst src : Reg) (off : Off) (s : State) : Result :=
  atomicUpdate32 .atomic32 arithAnd false dst src off s

/-- `ATOMIC_W_STX_AND_FETCH` (46_atomic.md R399). -/
def execAtomicWStxAndFetch (dst src : Reg) (off : Off) (s : State) : Result :=
  atomicUpdate32 .atomic32 arithAnd true dst src off s

/-- `ATOMIC_W_STX_XOR` (46_atomic.md R400). -/
def execAtomicWStxXor (dst src : Reg) (off : Off) (s : State) : Result :=
  atomicUpdate32 .atomic32 arithXor false dst src off s

/-- `ATOMIC_W_STX_XOR_FETCH` (46_atomic.md R401). -/
def execAtomicWStxXorFetch (dst src : Reg) (off : Off) (s : State) : Result :=
  atomicUpdate32 .atomic32 arithXor true dst src off s

/-- `ATOMIC_W_STX_XCHG` (46_atomic.md R402). -/
def execAtomicWStxXchg (dst src : Reg) (off : Off) (s : State) : Result :=
  atomicUpdate32 .atomic32 exchange true dst src off s

/-- `ATOMIC_W_STX_CMPXCHG` (46_atomic.md R403). -/
def execAtomicWStxCmpxchg (dst src : Reg) (off : Off) (s : State) : Result :=
  atomicCompare .atomic32 .w dst src off s

/-- `ATOMIC_DW_STX_ADD` (46_atomic.md R404). -/
def execAtomicDwStxAdd (dst src : Reg) (off : Off) (s : State) : Result :=
  atomicUpdate64 .atomic64 arithAdd false dst src off s

/-- `ATOMIC_DW_STX_ADD_FETCH` (46_atomic.md R405). -/
def execAtomicDwStxAddFetch (dst src : Reg) (off : Off) (s : State) : Result :=
  atomicUpdate64 .atomic64 arithAdd true dst src off s

/-- `ATOMIC_DW_STX_OR` (46_atomic.md R406). -/
def execAtomicDwStxOr (dst src : Reg) (off : Off) (s : State) : Result :=
  atomicUpdate64 .atomic64 arithOr false dst src off s

/-- `ATOMIC_DW_STX_OR_FETCH` (46_atomic.md R407). -/
def execAtomicDwStxOrFetch (dst src : Reg) (off : Off) (s : State) : Result :=
  atomicUpdate64 .atomic64 arithOr true dst src off s

/-- `ATOMIC_DW_STX_AND` (46_atomic.md R408). -/
def execAtomicDwStxAnd (dst src : Reg) (off : Off) (s : State) : Result :=
  atomicUpdate64 .atomic64 arithAnd false dst src off s

/-- `ATOMIC_DW_STX_AND_FETCH` (46_atomic.md R409). -/
def execAtomicDwStxAndFetch (dst src : Reg) (off : Off) (s : State) : Result :=
  atomicUpdate64 .atomic64 arithAnd true dst src off s

/-- `ATOMIC_DW_STX_XOR` (46_atomic.md R410). -/
def execAtomicDwStxXor (dst src : Reg) (off : Off) (s : State) : Result :=
  atomicUpdate64 .atomic64 arithXor false dst src off s

/-- `ATOMIC_DW_STX_XOR_FETCH` (46_atomic.md R411). -/
def execAtomicDwStxXorFetch (dst src : Reg) (off : Off) (s : State) : Result :=
  atomicUpdate64 .atomic64 arithXor true dst src off s

/-- `ATOMIC_DW_STX_XCHG` (46_atomic.md R412). -/
def execAtomicDwStxXchg (dst src : Reg) (off : Off) (s : State) : Result :=
  atomicUpdate64 .atomic64 exchange true dst src off s

/-- `ATOMIC_DW_STX_CMPXCHG` (46_atomic.md R413). -/
def execAtomicDwStxCmpxchg (dst src : Reg) (off : Off) (s : State) : Result :=
  atomicCompare .atomic64 .dw dst src off s

end Sys2Proof.Machine
end

