-- ==== Sys2Proof/Machine/ByteSwap.lean ====
section
/-! DEFINITION. The nine byte swap instructions (42_byteswap.md R260 to R270). -/

namespace Sys2Proof.Machine

/-- A byte swap: `x[dst]` is read and written, and nothing else (42_byteswap.md R261). -/
def swapRegister (g : ConfGroup) (f : Word → Word) (dst : Reg) (s : State) : Result :=
  outcome do
    permit s g [dst]
    let x ← readReg s dst
    return s.finish dst (f x)

/-- `END_LE_ALU_16` (42_byteswap.md R262). -/
def execEndLeAlu16 (dst : Reg) (s : State) : Result :=
  swapRegister .base32 (convert s.platform.endian .little 2) dst s

/-- `END_LE_ALU_32` (42_byteswap.md R263). -/
def execEndLeAlu32 (dst : Reg) (s : State) : Result :=
  swapRegister .base32 (convert s.platform.endian .little 4) dst s

/-- `END_LE_ALU_64` (42_byteswap.md R264). -/
def execEndLeAlu64 (dst : Reg) (s : State) : Result :=
  swapRegister .base64 (convert s.platform.endian .little 8) dst s

/-- `END_BE_ALU_16` (42_byteswap.md R265). -/
def execEndBeAlu16 (dst : Reg) (s : State) : Result :=
  swapRegister .base32 (convert s.platform.endian .big 2) dst s

/-- `END_BE_ALU_32` (42_byteswap.md R266). -/
def execEndBeAlu32 (dst : Reg) (s : State) : Result :=
  swapRegister .base32 (convert s.platform.endian .big 4) dst s

/-- `END_BE_ALU_64` (42_byteswap.md R267). -/
def execEndBeAlu64 (dst : Reg) (s : State) : Result :=
  swapRegister .base64 (convert s.platform.endian .big 8) dst s

/-- `END_TO_ALU64_16` (42_byteswap.md R268). -/
def execEndToAlu6416 (dst : Reg) (s : State) : Result := swapRegister .base32 (bswap 2) dst s

/-- `END_TO_ALU64_32` (42_byteswap.md R269). -/
def execEndToAlu6432 (dst : Reg) (s : State) : Result := swapRegister .base32 (bswap 4) dst s

/-- `END_TO_ALU64_64` (42_byteswap.md R270). -/
def execEndToAlu6464 (dst : Reg) (s : State) : Result := swapRegister .base64 (bswap 8) dst s

end Sys2Proof.Machine
end

