-- ==== Sys2Proof/Machine/CallExit.lean ====
section
/-! DEFINITION. CALL and EXIT (44_call_exit.md R340 to R346). -/

namespace Sys2Proof.Machine

/-- A helper call (44_call_exit.md R340, R342). -/
def helperCall (g : ConfGroup) (ids : IdSet) (imm : Imm) (s : State) : Result :=
  outcome do
    permit s g []
    let t ← callHelper s ids imm
    return t.advance

/-- The program-local call (44_call_exit.md R341). -/
def localCall (g : ConfGroup) (d : Int) (s : State) : Result :=
  outcome do
    permit s g []
    callLocal s d

/-- EXIT (44_call_exit.md R343). -/
def exitCall (g : ConfGroup) (s : State) : Result :=
  outcome do
    permit s g []
    returnOrEnd s

/-- `CALL_K_JMP_HELPER` (44_call_exit.md R340). -/
def execCallKJmpHelper (imm : Imm) (s : State) : Result := helperCall .base32 s.platform.helpersById imm s

/-- `CALL_K_JMP_LOCAL` (44_call_exit.md R341). -/
def execCallKJmpLocal (imm : Imm) (s : State) : Result := localCall .base32 (immDisplacement imm) s

/-- `CALL_K_JMP_BTF` (44_call_exit.md R342). -/
def execCallKJmpBtf (imm : Imm) (s : State) : Result := helperCall .base32 s.platform.helpersByBtf imm s

/-- `EXIT_K_JMP` (44_call_exit.md R343). -/
def execExitKJmp (s : State) : Result := exitCall .base32 s

end Sys2Proof.Machine
end

