-- ==== Sys2Proof/Machine/Imm64.lean ====
section
/-! DEFINITION. The 64-bit immediates (47_imm64.md R430 to R438) and their second slot (R431). -/

namespace Sys2Proof.Machine

/-- LD IMM DW (47_imm64.md R430): no register is read; a platform function that is absent is the fault that `v` carries. -/
def setWide (g : ConfGroup) (dst : Reg) (v : Except Fault Word) (s : State) : Result :=
  outcome do
    permit s g [dst]
    let a ← v
    return (s.writeReg dst a).advanceWide

/-- `map_val(map) + next_imm` (47_imm64.md R434, R438): `next_imm` is added as a signed value, modulo 2^64. -/
def valueAddress (s : State) (subtype : BitVec 4) (imm : Imm) (map : Option Word) (nextImm : Imm) : Except Fault Word := do
  let a ← demandAddress subtype imm (map.bind fun m => lookup s.platform.mapVal Config.mapVal m)
  return a + sextImm nextImm

/-- `IMM_NEXT` (47_imm64.md R431). It is consumed with the slot before it; in instruction position it is no instruction,
which is `IllegalInstruction` (60_exceptions.md R463). -/
def execImmNext (_nextImm : Imm) (s : State) : Result := .fault (.illegalInstruction s.pc)

/-- `IMM_DW_LD_IMM64` (47_imm64.md R432). -/
def execImmDwLdImm64 (dst : Reg) (imm nextImm : Imm) (s : State) : Result :=
  setWide .base64 dst (.ok (imm64 imm nextImm)) s

/-- `IMM_DW_LD_MAPFD` (47_imm64.md R433). -/
def execImmDwLdMapfd (dst : Reg) (imm : Imm) (s : State) : Result :=
  setWide .base64 dst (demandAddress 1 imm (lookup s.platform.mapByFd Config.mapByFd imm)) s

/-- `IMM_DW_LD_MAPFD_VAL` (47_imm64.md R434). -/
def execImmDwLdMapfdVal (dst : Reg) (imm nextImm : Imm) (s : State) : Result :=
  setWide .base64 dst (valueAddress s 2 imm (lookup s.platform.mapByFd Config.mapByFd imm) nextImm) s

/-- `IMM_DW_LD_VARADDR` (47_imm64.md R435). -/
def execImmDwLdVaraddr (dst : Reg) (imm : Imm) (s : State) : Result :=
  setWide .base64 dst (demandAddress 3 imm (lookup s.platform.varAddr Config.varAddr imm)) s

/-- `IMM_DW_LD_CODEADDR` (47_imm64.md R436). -/
def execImmDwLdCodeaddr (dst : Reg) (imm : Imm) (s : State) : Result :=
  setWide .base64 dst (demandAddress 4 imm (lookup s.platform.codeAddr Config.codeAddr (s.pc, imm))) s

/-- `IMM_DW_LD_MAPIDX` (47_imm64.md R437). -/
def execImmDwLdMapidx (dst : Reg) (imm : Imm) (s : State) : Result :=
  setWide .base64 dst (demandAddress 5 imm (lookup s.platform.mapByIdx Config.mapByIdx imm)) s

/-- `IMM_DW_LD_MAPIDX_VAL` (47_imm64.md R438). -/
def execImmDwLdMapidxVal (dst : Reg) (imm nextImm : Imm) (s : State) : Result :=
  setWide .base64 dst (valueAddress s 6 imm (lookup s.platform.mapByIdx Config.mapByIdx imm) nextImm) s

end Sys2Proof.Machine
end

