-- ==== Sys2Proof/Machine/Flags.lean ====
section
/-! DEFINITION. The machine has no flags and no condition codes (10_state.md R45): a conditional jump compares two operands
inside the instruction. The eleven conditions stand here (43_jump.md R285), for operands of any width. -/

namespace Sys2Proof.Machine

variable {n : Nat}

/-- JEQ: bit equality. -/
def condEq (a b : BitVec n) : Bool := decide (a = b)

/-- JGT: unsigned. -/
def condGt (a b : BitVec n) : Bool := decide (a.toNat > b.toNat)

/-- JGE: unsigned. -/
def condGe (a b : BitVec n) : Bool := decide (a.toNat ≥ b.toNat)

/-- JSET: any common 1 bit. -/
def condSet (a b : BitVec n) : Bool := decide (a &&& b ≠ 0)

/-- JNE: bit inequality. -/
def condNe (a b : BitVec n) : Bool := decide (a ≠ b)

/-- JSGT: signed. -/
def condSgt (a b : BitVec n) : Bool := decide (a.toInt > b.toInt)

/-- JSGE: signed. -/
def condSge (a b : BitVec n) : Bool := decide (a.toInt ≥ b.toInt)

/-- JLT: unsigned. -/
def condLt (a b : BitVec n) : Bool := decide (a.toNat < b.toNat)

/-- JLE: unsigned. -/
def condLe (a b : BitVec n) : Bool := decide (a.toNat ≤ b.toNat)

/-- JSLT: signed. -/
def condSlt (a b : BitVec n) : Bool := decide (a.toInt < b.toInt)

/-- JSLE: signed. -/
def condSle (a b : BitVec n) : Bool := decide (a.toInt ≤ b.toInt)

end Sys2Proof.Machine
end

