-- ==== Sys2Proof/Machine/Jump.lean ====
section
/-! DEFINITION. The two unconditional and 44 conditional jumps (43_jump.md R280 to R331). -/

namespace Sys2Proof.Machine

/-- JA: `pc <- next_pc + d` (43_jump.md R286, R287). -/
def jumpAlways (g : ConfGroup) (d : Int) (s : State) : Result :=
  outcome do
    permit s g []
    return s.jump d

/-- A conditional jump of class JMP (43_jump.md R280, R281, R285): no register is written. -/
def branch64 (g : ConfGroup) (cond : Word → Word → Bool) (dst : Reg) (b : Source) (off : Off) (s : State) : Result :=
  outcome do
    permit s g (dst :: b.regs)
    let x ← readReg s dst
    let y ← b.value64 s
    return if cond x y then s.jump (offDisplacement off) else s.advance

/-- A conditional jump of class JMP32 (43_jump.md R280, R281, R285). -/
def branch32 (g : ConfGroup) (cond : Word32 → Word32 → Bool) (dst : Reg) (b : Source) (off : Off) (s : State) : Result :=
  outcome do
    permit s g (dst :: b.regs)
    let x ← readReg s dst
    let y ← b.value32 s
    return if cond (low32 x) y then s.jump (offDisplacement off) else s.advance

/-- `JA_K_JMP` (43_jump.md R286). -/
def execJaKJmp (off : Off) (s : State) : Result := jumpAlways .base32 (offDisplacement off) s

/-- `JA_K_JMP32` (43_jump.md R287). -/
def execJaKJmp32 (imm : Imm) (s : State) : Result := jumpAlways .base32 (immDisplacement imm) s

/-- `JEQ_K_JMP` (43_jump.md R288). -/
def execJeqKJmp (dst : Reg) (imm : Imm) (off : Off) (s : State) : Result :=
  branch64 .base64 condEq dst (.k imm) off s

/-- `JEQ_X_JMP` (43_jump.md R289). -/
def execJeqXJmp (dst src : Reg) (off : Off) (s : State) : Result := branch64 .base64 condEq dst (.x src) off s

/-- `JEQ_K_JMP32` (43_jump.md R290). -/
def execJeqKJmp32 (dst : Reg) (imm : Imm) (off : Off) (s : State) : Result :=
  branch32 .base32 condEq dst (.k imm) off s

/-- `JEQ_X_JMP32` (43_jump.md R291). -/
def execJeqXJmp32 (dst src : Reg) (off : Off) (s : State) : Result :=
  branch32 .base32 condEq dst (.x src) off s

/-- `JGT_K_JMP` (43_jump.md R292). -/
def execJgtKJmp (dst : Reg) (imm : Imm) (off : Off) (s : State) : Result :=
  branch64 .base64 condGt dst (.k imm) off s

/-- `JGT_X_JMP` (43_jump.md R293). -/
def execJgtXJmp (dst src : Reg) (off : Off) (s : State) : Result := branch64 .base64 condGt dst (.x src) off s

/-- `JGT_K_JMP32` (43_jump.md R294). -/
def execJgtKJmp32 (dst : Reg) (imm : Imm) (off : Off) (s : State) : Result :=
  branch32 .base32 condGt dst (.k imm) off s

/-- `JGT_X_JMP32` (43_jump.md R295). -/
def execJgtXJmp32 (dst src : Reg) (off : Off) (s : State) : Result :=
  branch32 .base32 condGt dst (.x src) off s

/-- `JGE_K_JMP` (43_jump.md R296). -/
def execJgeKJmp (dst : Reg) (imm : Imm) (off : Off) (s : State) : Result :=
  branch64 .base64 condGe dst (.k imm) off s

/-- `JGE_X_JMP` (43_jump.md R297). -/
def execJgeXJmp (dst src : Reg) (off : Off) (s : State) : Result := branch64 .base64 condGe dst (.x src) off s

/-- `JGE_K_JMP32` (43_jump.md R298). -/
def execJgeKJmp32 (dst : Reg) (imm : Imm) (off : Off) (s : State) : Result :=
  branch32 .base32 condGe dst (.k imm) off s

/-- `JGE_X_JMP32` (43_jump.md R299). -/
def execJgeXJmp32 (dst src : Reg) (off : Off) (s : State) : Result :=
  branch32 .base32 condGe dst (.x src) off s

/-- `JSET_K_JMP` (43_jump.md R300). -/
def execJsetKJmp (dst : Reg) (imm : Imm) (off : Off) (s : State) : Result :=
  branch64 .base64 condSet dst (.k imm) off s

/-- `JSET_X_JMP` (43_jump.md R301). -/
def execJsetXJmp (dst src : Reg) (off : Off) (s : State) : Result :=
  branch64 .base64 condSet dst (.x src) off s

/-- `JSET_K_JMP32` (43_jump.md R302). -/
def execJsetKJmp32 (dst : Reg) (imm : Imm) (off : Off) (s : State) : Result :=
  branch32 .base32 condSet dst (.k imm) off s

/-- `JSET_X_JMP32` (43_jump.md R303). -/
def execJsetXJmp32 (dst src : Reg) (off : Off) (s : State) : Result :=
  branch32 .base32 condSet dst (.x src) off s

/-- `JNE_K_JMP` (43_jump.md R304). -/
def execJneKJmp (dst : Reg) (imm : Imm) (off : Off) (s : State) : Result :=
  branch64 .base64 condNe dst (.k imm) off s

/-- `JNE_X_JMP` (43_jump.md R305). -/
def execJneXJmp (dst src : Reg) (off : Off) (s : State) : Result := branch64 .base64 condNe dst (.x src) off s

/-- `JNE_K_JMP32` (43_jump.md R306). -/
def execJneKJmp32 (dst : Reg) (imm : Imm) (off : Off) (s : State) : Result :=
  branch32 .base32 condNe dst (.k imm) off s

/-- `JNE_X_JMP32` (43_jump.md R307). -/
def execJneXJmp32 (dst src : Reg) (off : Off) (s : State) : Result :=
  branch32 .base32 condNe dst (.x src) off s

/-- `JSGT_K_JMP` (43_jump.md R308). -/
def execJsgtKJmp (dst : Reg) (imm : Imm) (off : Off) (s : State) : Result :=
  branch64 .base64 condSgt dst (.k imm) off s

/-- `JSGT_X_JMP` (43_jump.md R309). -/
def execJsgtXJmp (dst src : Reg) (off : Off) (s : State) : Result :=
  branch64 .base64 condSgt dst (.x src) off s

/-- `JSGT_K_JMP32` (43_jump.md R310). -/
def execJsgtKJmp32 (dst : Reg) (imm : Imm) (off : Off) (s : State) : Result :=
  branch32 .base32 condSgt dst (.k imm) off s

/-- `JSGT_X_JMP32` (43_jump.md R311). -/
def execJsgtXJmp32 (dst src : Reg) (off : Off) (s : State) : Result :=
  branch32 .base32 condSgt dst (.x src) off s

/-- `JSGE_K_JMP` (43_jump.md R312). -/
def execJsgeKJmp (dst : Reg) (imm : Imm) (off : Off) (s : State) : Result :=
  branch64 .base64 condSge dst (.k imm) off s

/-- `JSGE_X_JMP` (43_jump.md R313). -/
def execJsgeXJmp (dst src : Reg) (off : Off) (s : State) : Result :=
  branch64 .base64 condSge dst (.x src) off s

/-- `JSGE_K_JMP32` (43_jump.md R314). -/
def execJsgeKJmp32 (dst : Reg) (imm : Imm) (off : Off) (s : State) : Result :=
  branch32 .base32 condSge dst (.k imm) off s

/-- `JSGE_X_JMP32` (43_jump.md R315). -/
def execJsgeXJmp32 (dst src : Reg) (off : Off) (s : State) : Result :=
  branch32 .base32 condSge dst (.x src) off s

/-- `JLT_K_JMP` (43_jump.md R316). -/
def execJltKJmp (dst : Reg) (imm : Imm) (off : Off) (s : State) : Result :=
  branch64 .base64 condLt dst (.k imm) off s

/-- `JLT_X_JMP` (43_jump.md R317). -/
def execJltXJmp (dst src : Reg) (off : Off) (s : State) : Result := branch64 .base64 condLt dst (.x src) off s

/-- `JLT_K_JMP32` (43_jump.md R318). -/
def execJltKJmp32 (dst : Reg) (imm : Imm) (off : Off) (s : State) : Result :=
  branch32 .base32 condLt dst (.k imm) off s

/-- `JLT_X_JMP32` (43_jump.md R319). -/
def execJltXJmp32 (dst src : Reg) (off : Off) (s : State) : Result :=
  branch32 .base32 condLt dst (.x src) off s

/-- `JLE_K_JMP` (43_jump.md R320). -/
def execJleKJmp (dst : Reg) (imm : Imm) (off : Off) (s : State) : Result :=
  branch64 .base64 condLe dst (.k imm) off s

/-- `JLE_X_JMP` (43_jump.md R321). -/
def execJleXJmp (dst src : Reg) (off : Off) (s : State) : Result := branch64 .base64 condLe dst (.x src) off s

/-- `JLE_K_JMP32` (43_jump.md R322). -/
def execJleKJmp32 (dst : Reg) (imm : Imm) (off : Off) (s : State) : Result :=
  branch32 .base32 condLe dst (.k imm) off s

/-- `JLE_X_JMP32` (43_jump.md R323). -/
def execJleXJmp32 (dst src : Reg) (off : Off) (s : State) : Result :=
  branch32 .base32 condLe dst (.x src) off s

/-- `JSLT_K_JMP` (43_jump.md R324). -/
def execJsltKJmp (dst : Reg) (imm : Imm) (off : Off) (s : State) : Result :=
  branch64 .base64 condSlt dst (.k imm) off s

/-- `JSLT_X_JMP` (43_jump.md R325). -/
def execJsltXJmp (dst src : Reg) (off : Off) (s : State) : Result :=
  branch64 .base64 condSlt dst (.x src) off s

/-- `JSLT_K_JMP32` (43_jump.md R326). -/
def execJsltKJmp32 (dst : Reg) (imm : Imm) (off : Off) (s : State) : Result :=
  branch32 .base32 condSlt dst (.k imm) off s

/-- `JSLT_X_JMP32` (43_jump.md R327). -/
def execJsltXJmp32 (dst src : Reg) (off : Off) (s : State) : Result :=
  branch32 .base32 condSlt dst (.x src) off s

/-- `JSLE_K_JMP` (43_jump.md R328). -/
def execJsleKJmp (dst : Reg) (imm : Imm) (off : Off) (s : State) : Result :=
  branch64 .base64 condSle dst (.k imm) off s

/-- `JSLE_X_JMP` (43_jump.md R329). -/
def execJsleXJmp (dst src : Reg) (off : Off) (s : State) : Result :=
  branch64 .base64 condSle dst (.x src) off s

/-- `JSLE_K_JMP32` (43_jump.md R330). -/
def execJsleKJmp32 (dst : Reg) (imm : Imm) (off : Off) (s : State) : Result :=
  branch32 .base32 condSle dst (.k imm) off s

/-- `JSLE_X_JMP32` (43_jump.md R331). -/
def execJsleXJmp32 (dst src : Reg) (off : Off) (s : State) : Result :=
  branch32 .base32 condSle dst (.x src) off s

end Sys2Proof.Machine
end

