-- ==== Sys2Proof/Machine/LoadStore.lean ====
section
/-! DEFINITION. The fifteen loads and stores (45_load_store.md R360 to R376). -/

namespace Sys2Proof.Machine

/-- A load (45_load_store.md R361): the base is read, the address computed, the bytes read, and `x[dst]` written with the value
as `ext` widens it. -/
def loadInto (g : ConfGroup) (size : Size) (ext : Word → Word) (dst src : Reg) (off : Off) (s : State) : Result :=
  outcome do
    permit s g [dst, src]
    let base ← readReg s src
    let v ← memRead s (effectiveAddress base off) size
    return s.finish dst (ext v)

/-- A store (45_load_store.md R361): the base is read, then the datum, and its low bytes are written. -/
def storeFrom (g : ConfGroup) (size : Size) (dst : Reg) (off : Off) (b : Source) (s : State) : Result :=
  outcome do
    permit s g (dst :: b.regs)
    let base ← readReg s dst
    let v ← b.value64 s
    let t ← memWrite s (effectiveAddress base off) size v
    return t.advance

/-- `MEM_B_LDX` (45_load_store.md R362). -/
def execMemBLdx (dst src : Reg) (off : Off) (s : State) : Result := loadInto .base32 .b id dst src off s

/-- `MEM_H_LDX` (45_load_store.md R363). -/
def execMemHLdx (dst src : Reg) (off : Off) (s : State) : Result := loadInto .base32 .h id dst src off s

/-- `MEM_W_LDX` (45_load_store.md R364). -/
def execMemWLdx (dst src : Reg) (off : Off) (s : State) : Result := loadInto .base32 .w id dst src off s

/-- `MEM_DW_LDX` (45_load_store.md R365). -/
def execMemDwLdx (dst src : Reg) (off : Off) (s : State) : Result := loadInto .base64 .dw id dst src off s

/-- `MEM_B_ST` (45_load_store.md R366). -/
def execMemBSt (dst : Reg) (off : Off) (imm : Imm) (s : State) : Result :=
  storeFrom .base32 .b dst off (.k imm) s

/-- `MEM_H_ST` (45_load_store.md R367). -/
def execMemHSt (dst : Reg) (off : Off) (imm : Imm) (s : State) : Result :=
  storeFrom .base32 .h dst off (.k imm) s

/-- `MEM_W_ST` (45_load_store.md R368). -/
def execMemWSt (dst : Reg) (off : Off) (imm : Imm) (s : State) : Result :=
  storeFrom .base32 .w dst off (.k imm) s

/-- `MEM_DW_ST` (45_load_store.md R369). -/
def execMemDwSt (dst : Reg) (off : Off) (imm : Imm) (s : State) : Result :=
  storeFrom .base64 .dw dst off (.k imm) s

/-- `MEM_B_STX` (45_load_store.md R370). -/
def execMemBStx (dst src : Reg) (off : Off) (s : State) : Result := storeFrom .base32 .b dst off (.x src) s

/-- `MEM_H_STX` (45_load_store.md R371). -/
def execMemHStx (dst src : Reg) (off : Off) (s : State) : Result := storeFrom .base32 .h dst off (.x src) s

/-- `MEM_W_STX` (45_load_store.md R372). -/
def execMemWStx (dst src : Reg) (off : Off) (s : State) : Result := storeFrom .base32 .w dst off (.x src) s

/-- `MEM_DW_STX` (45_load_store.md R373). -/
def execMemDwStx (dst src : Reg) (off : Off) (s : State) : Result := storeFrom .base64 .dw dst off (.x src) s

/-- `MEMSX_B_LDX` (45_load_store.md R374). -/
def execMemsxBLdx (dst src : Reg) (off : Off) (s : State) : Result :=
  loadInto .base32 .b (sextLow 8 64) dst src off s

/-- `MEMSX_H_LDX` (45_load_store.md R375). -/
def execMemsxHLdx (dst src : Reg) (off : Off) (s : State) : Result :=
  loadInto .base32 .h (sextLow 16 64) dst src off s

/-- `MEMSX_W_LDX` (45_load_store.md R376). -/
def execMemsxWLdx (dst src : Reg) (off : Off) (s : State) : Result :=
  loadInto .base32 .w (sextLow 32 64) dst src off s

end Sys2Proof.Machine
end

