-- ==== Sys2Proof/Machine/Packet.lean ====
section
/-! DEFINITION. The six legacy packet instructions: the spec gives their encodings and no meaning (48_packet.md R450 to R456), and their
execution is the refusal `Refused(packet)` (60_exceptions.md R471). -/

namespace Sys2Proof.Machine

/-- `ABS_W_LD` (48_packet.md R451). -/
def execAbsWLd (_imm : Imm) (_s : State) : Result := .refused .packet

/-- `ABS_H_LD` (48_packet.md R452). -/
def execAbsHLd (_imm : Imm) (_s : State) : Result := .refused .packet

/-- `ABS_B_LD` (48_packet.md R453). -/
def execAbsBLd (_imm : Imm) (_s : State) : Result := .refused .packet

/-- `IND_W_LD` (48_packet.md R454). -/
def execIndWLd (_src : Reg) (_imm : Imm) (_s : State) : Result := .refused .packet

/-- `IND_H_LD` (48_packet.md R455). -/
def execIndHLd (_src : Reg) (_imm : Imm) (_s : State) : Result := .refused .packet

/-- `IND_B_LD` (48_packet.md R456). -/
def execIndBLd (_src : Reg) (_imm : Imm) (_s : State) : Result := .refused .packet

end Sys2Proof.Machine
end

