-- ==== Sys2Proof/Machine/Dispatch.lean ====
section
/-! DEFINITION. The meaning of every instruction, one arm for each constructor of `Instr`. -/

namespace Sys2Proof.Machine

def exec (i : Instr) (s : State) : Host.Outcome State Fault Refusal :=
  match i with
  | .addKAlu dst imm => Sys2Proof.Machine.execAddKAlu dst imm s
  | .addXAlu dst src => Sys2Proof.Machine.execAddXAlu dst src s
  | .subKAlu dst imm => Sys2Proof.Machine.execSubKAlu dst imm s
  | .subXAlu dst src => Sys2Proof.Machine.execSubXAlu dst src s
  | .mulKAlu dst imm => Sys2Proof.Machine.execMulKAlu dst imm s
  | .mulXAlu dst src => Sys2Proof.Machine.execMulXAlu dst src s
  | .divKAlu dst imm => Sys2Proof.Machine.execDivKAlu dst imm s
  | .divXAlu dst src => Sys2Proof.Machine.execDivXAlu dst src s
  | .sdivKAlu dst imm => Sys2Proof.Machine.execSdivKAlu dst imm s
  | .sdivXAlu dst src => Sys2Proof.Machine.execSdivXAlu dst src s
  | .orKAlu dst imm => Sys2Proof.Machine.execOrKAlu dst imm s
  | .orXAlu dst src => Sys2Proof.Machine.execOrXAlu dst src s
  | .andKAlu dst imm => Sys2Proof.Machine.execAndKAlu dst imm s
  | .andXAlu dst src => Sys2Proof.Machine.execAndXAlu dst src s
  | .lshKAlu dst imm => Sys2Proof.Machine.execLshKAlu dst imm s
  | .lshXAlu dst src => Sys2Proof.Machine.execLshXAlu dst src s
  | .rshKAlu dst imm => Sys2Proof.Machine.execRshKAlu dst imm s
  | .rshXAlu dst src => Sys2Proof.Machine.execRshXAlu dst src s
  | .negKAlu dst => Sys2Proof.Machine.execNegKAlu dst s
  | .modKAlu dst imm => Sys2Proof.Machine.execModKAlu dst imm s
  | .modXAlu dst src => Sys2Proof.Machine.execModXAlu dst src s
  | .smodKAlu dst imm => Sys2Proof.Machine.execSmodKAlu dst imm s
  | .smodXAlu dst src => Sys2Proof.Machine.execSmodXAlu dst src s
  | .xorKAlu dst imm => Sys2Proof.Machine.execXorKAlu dst imm s
  | .xorXAlu dst src => Sys2Proof.Machine.execXorXAlu dst src s
  | .movKAlu dst imm => Sys2Proof.Machine.execMovKAlu dst imm s
  | .movXAlu dst src => Sys2Proof.Machine.execMovXAlu dst src s
  | .movsx8XAlu dst src => Sys2Proof.Machine.execMovsx8XAlu dst src s
  | .movsx16XAlu dst src => Sys2Proof.Machine.execMovsx16XAlu dst src s
  | .arshKAlu dst imm => Sys2Proof.Machine.execArshKAlu dst imm s
  | .arshXAlu dst src => Sys2Proof.Machine.execArshXAlu dst src s
  | .addKAlu64 dst imm => Sys2Proof.Machine.execAddKAlu64 dst imm s
  | .addXAlu64 dst src => Sys2Proof.Machine.execAddXAlu64 dst src s
  | .subKAlu64 dst imm => Sys2Proof.Machine.execSubKAlu64 dst imm s
  | .subXAlu64 dst src => Sys2Proof.Machine.execSubXAlu64 dst src s
  | .mulKAlu64 dst imm => Sys2Proof.Machine.execMulKAlu64 dst imm s
  | .mulXAlu64 dst src => Sys2Proof.Machine.execMulXAlu64 dst src s
  | .divKAlu64 dst imm => Sys2Proof.Machine.execDivKAlu64 dst imm s
  | .divXAlu64 dst src => Sys2Proof.Machine.execDivXAlu64 dst src s
  | .sdivKAlu64 dst imm => Sys2Proof.Machine.execSdivKAlu64 dst imm s
  | .sdivXAlu64 dst src => Sys2Proof.Machine.execSdivXAlu64 dst src s
  | .orKAlu64 dst imm => Sys2Proof.Machine.execOrKAlu64 dst imm s
  | .orXAlu64 dst src => Sys2Proof.Machine.execOrXAlu64 dst src s
  | .andKAlu64 dst imm => Sys2Proof.Machine.execAndKAlu64 dst imm s
  | .andXAlu64 dst src => Sys2Proof.Machine.execAndXAlu64 dst src s
  | .lshKAlu64 dst imm => Sys2Proof.Machine.execLshKAlu64 dst imm s
  | .lshXAlu64 dst src => Sys2Proof.Machine.execLshXAlu64 dst src s
  | .rshKAlu64 dst imm => Sys2Proof.Machine.execRshKAlu64 dst imm s
  | .rshXAlu64 dst src => Sys2Proof.Machine.execRshXAlu64 dst src s
  | .negKAlu64 dst => Sys2Proof.Machine.execNegKAlu64 dst s
  | .modKAlu64 dst imm => Sys2Proof.Machine.execModKAlu64 dst imm s
  | .modXAlu64 dst src => Sys2Proof.Machine.execModXAlu64 dst src s
  | .smodKAlu64 dst imm => Sys2Proof.Machine.execSmodKAlu64 dst imm s
  | .smodXAlu64 dst src => Sys2Proof.Machine.execSmodXAlu64 dst src s
  | .xorKAlu64 dst imm => Sys2Proof.Machine.execXorKAlu64 dst imm s
  | .xorXAlu64 dst src => Sys2Proof.Machine.execXorXAlu64 dst src s
  | .movKAlu64 dst imm => Sys2Proof.Machine.execMovKAlu64 dst imm s
  | .movXAlu64 dst src => Sys2Proof.Machine.execMovXAlu64 dst src s
  | .movsx8XAlu64 dst src => Sys2Proof.Machine.execMovsx8XAlu64 dst src s
  | .movsx16XAlu64 dst src => Sys2Proof.Machine.execMovsx16XAlu64 dst src s
  | .movsx32XAlu64 dst src => Sys2Proof.Machine.execMovsx32XAlu64 dst src s
  | .arshKAlu64 dst imm => Sys2Proof.Machine.execArshKAlu64 dst imm s
  | .arshXAlu64 dst src => Sys2Proof.Machine.execArshXAlu64 dst src s
  | .endLeAlu16 dst => Sys2Proof.Machine.execEndLeAlu16 dst s
  | .endLeAlu32 dst => Sys2Proof.Machine.execEndLeAlu32 dst s
  | .endLeAlu64 dst => Sys2Proof.Machine.execEndLeAlu64 dst s
  | .endBeAlu16 dst => Sys2Proof.Machine.execEndBeAlu16 dst s
  | .endBeAlu32 dst => Sys2Proof.Machine.execEndBeAlu32 dst s
  | .endBeAlu64 dst => Sys2Proof.Machine.execEndBeAlu64 dst s
  | .endToAlu6416 dst => Sys2Proof.Machine.execEndToAlu6416 dst s
  | .endToAlu6432 dst => Sys2Proof.Machine.execEndToAlu6432 dst s
  | .endToAlu6464 dst => Sys2Proof.Machine.execEndToAlu6464 dst s
  | .jaKJmp off => Sys2Proof.Machine.execJaKJmp off s
  | .jaKJmp32 imm => Sys2Proof.Machine.execJaKJmp32 imm s
  | .jeqKJmp dst imm off => Sys2Proof.Machine.execJeqKJmp dst imm off s
  | .jeqXJmp dst src off => Sys2Proof.Machine.execJeqXJmp dst src off s
  | .jeqKJmp32 dst imm off => Sys2Proof.Machine.execJeqKJmp32 dst imm off s
  | .jeqXJmp32 dst src off => Sys2Proof.Machine.execJeqXJmp32 dst src off s
  | .jgtKJmp dst imm off => Sys2Proof.Machine.execJgtKJmp dst imm off s
  | .jgtXJmp dst src off => Sys2Proof.Machine.execJgtXJmp dst src off s
  | .jgtKJmp32 dst imm off => Sys2Proof.Machine.execJgtKJmp32 dst imm off s
  | .jgtXJmp32 dst src off => Sys2Proof.Machine.execJgtXJmp32 dst src off s
  | .jgeKJmp dst imm off => Sys2Proof.Machine.execJgeKJmp dst imm off s
  | .jgeXJmp dst src off => Sys2Proof.Machine.execJgeXJmp dst src off s
  | .jgeKJmp32 dst imm off => Sys2Proof.Machine.execJgeKJmp32 dst imm off s
  | .jgeXJmp32 dst src off => Sys2Proof.Machine.execJgeXJmp32 dst src off s
  | .jsetKJmp dst imm off => Sys2Proof.Machine.execJsetKJmp dst imm off s
  | .jsetXJmp dst src off => Sys2Proof.Machine.execJsetXJmp dst src off s
  | .jsetKJmp32 dst imm off => Sys2Proof.Machine.execJsetKJmp32 dst imm off s
  | .jsetXJmp32 dst src off => Sys2Proof.Machine.execJsetXJmp32 dst src off s
  | .jneKJmp dst imm off => Sys2Proof.Machine.execJneKJmp dst imm off s
  | .jneXJmp dst src off => Sys2Proof.Machine.execJneXJmp dst src off s
  | .jneKJmp32 dst imm off => Sys2Proof.Machine.execJneKJmp32 dst imm off s
  | .jneXJmp32 dst src off => Sys2Proof.Machine.execJneXJmp32 dst src off s
  | .jsgtKJmp dst imm off => Sys2Proof.Machine.execJsgtKJmp dst imm off s
  | .jsgtXJmp dst src off => Sys2Proof.Machine.execJsgtXJmp dst src off s
  | .jsgtKJmp32 dst imm off => Sys2Proof.Machine.execJsgtKJmp32 dst imm off s
  | .jsgtXJmp32 dst src off => Sys2Proof.Machine.execJsgtXJmp32 dst src off s
  | .jsgeKJmp dst imm off => Sys2Proof.Machine.execJsgeKJmp dst imm off s
  | .jsgeXJmp dst src off => Sys2Proof.Machine.execJsgeXJmp dst src off s
  | .jsgeKJmp32 dst imm off => Sys2Proof.Machine.execJsgeKJmp32 dst imm off s
  | .jsgeXJmp32 dst src off => Sys2Proof.Machine.execJsgeXJmp32 dst src off s
  | .jltKJmp dst imm off => Sys2Proof.Machine.execJltKJmp dst imm off s
  | .jltXJmp dst src off => Sys2Proof.Machine.execJltXJmp dst src off s
  | .jltKJmp32 dst imm off => Sys2Proof.Machine.execJltKJmp32 dst imm off s
  | .jltXJmp32 dst src off => Sys2Proof.Machine.execJltXJmp32 dst src off s
  | .jleKJmp dst imm off => Sys2Proof.Machine.execJleKJmp dst imm off s
  | .jleXJmp dst src off => Sys2Proof.Machine.execJleXJmp dst src off s
  | .jleKJmp32 dst imm off => Sys2Proof.Machine.execJleKJmp32 dst imm off s
  | .jleXJmp32 dst src off => Sys2Proof.Machine.execJleXJmp32 dst src off s
  | .jsltKJmp dst imm off => Sys2Proof.Machine.execJsltKJmp dst imm off s
  | .jsltXJmp dst src off => Sys2Proof.Machine.execJsltXJmp dst src off s
  | .jsltKJmp32 dst imm off => Sys2Proof.Machine.execJsltKJmp32 dst imm off s
  | .jsltXJmp32 dst src off => Sys2Proof.Machine.execJsltXJmp32 dst src off s
  | .jsleKJmp dst imm off => Sys2Proof.Machine.execJsleKJmp dst imm off s
  | .jsleXJmp dst src off => Sys2Proof.Machine.execJsleXJmp dst src off s
  | .jsleKJmp32 dst imm off => Sys2Proof.Machine.execJsleKJmp32 dst imm off s
  | .jsleXJmp32 dst src off => Sys2Proof.Machine.execJsleXJmp32 dst src off s
  | .callKJmpHelper imm => Sys2Proof.Machine.execCallKJmpHelper imm s
  | .callKJmpLocal imm => Sys2Proof.Machine.execCallKJmpLocal imm s
  | .callKJmpBtf imm => Sys2Proof.Machine.execCallKJmpBtf imm s
  | .exitKJmp => Sys2Proof.Machine.execExitKJmp s
  | .memBLdx dst src off => Sys2Proof.Machine.execMemBLdx dst src off s
  | .memHLdx dst src off => Sys2Proof.Machine.execMemHLdx dst src off s
  | .memWLdx dst src off => Sys2Proof.Machine.execMemWLdx dst src off s
  | .memDwLdx dst src off => Sys2Proof.Machine.execMemDwLdx dst src off s
  | .memBSt dst off imm => Sys2Proof.Machine.execMemBSt dst off imm s
  | .memHSt dst off imm => Sys2Proof.Machine.execMemHSt dst off imm s
  | .memWSt dst off imm => Sys2Proof.Machine.execMemWSt dst off imm s
  | .memDwSt dst off imm => Sys2Proof.Machine.execMemDwSt dst off imm s
  | .memBStx dst src off => Sys2Proof.Machine.execMemBStx dst src off s
  | .memHStx dst src off => Sys2Proof.Machine.execMemHStx dst src off s
  | .memWStx dst src off => Sys2Proof.Machine.execMemWStx dst src off s
  | .memDwStx dst src off => Sys2Proof.Machine.execMemDwStx dst src off s
  | .memsxBLdx dst src off => Sys2Proof.Machine.execMemsxBLdx dst src off s
  | .memsxHLdx dst src off => Sys2Proof.Machine.execMemsxHLdx dst src off s
  | .memsxWLdx dst src off => Sys2Proof.Machine.execMemsxWLdx dst src off s
  | .atomicWStxAdd dst src off => Sys2Proof.Machine.execAtomicWStxAdd dst src off s
  | .atomicWStxAddFetch dst src off => Sys2Proof.Machine.execAtomicWStxAddFetch dst src off s
  | .atomicWStxOr dst src off => Sys2Proof.Machine.execAtomicWStxOr dst src off s
  | .atomicWStxOrFetch dst src off => Sys2Proof.Machine.execAtomicWStxOrFetch dst src off s
  | .atomicWStxAnd dst src off => Sys2Proof.Machine.execAtomicWStxAnd dst src off s
  | .atomicWStxAndFetch dst src off => Sys2Proof.Machine.execAtomicWStxAndFetch dst src off s
  | .atomicWStxXor dst src off => Sys2Proof.Machine.execAtomicWStxXor dst src off s
  | .atomicWStxXorFetch dst src off => Sys2Proof.Machine.execAtomicWStxXorFetch dst src off s
  | .atomicWStxXchg dst src off => Sys2Proof.Machine.execAtomicWStxXchg dst src off s
  | .atomicWStxCmpxchg dst src off => Sys2Proof.Machine.execAtomicWStxCmpxchg dst src off s
  | .atomicDwStxAdd dst src off => Sys2Proof.Machine.execAtomicDwStxAdd dst src off s
  | .atomicDwStxAddFetch dst src off => Sys2Proof.Machine.execAtomicDwStxAddFetch dst src off s
  | .atomicDwStxOr dst src off => Sys2Proof.Machine.execAtomicDwStxOr dst src off s
  | .atomicDwStxOrFetch dst src off => Sys2Proof.Machine.execAtomicDwStxOrFetch dst src off s
  | .atomicDwStxAnd dst src off => Sys2Proof.Machine.execAtomicDwStxAnd dst src off s
  | .atomicDwStxAndFetch dst src off => Sys2Proof.Machine.execAtomicDwStxAndFetch dst src off s
  | .atomicDwStxXor dst src off => Sys2Proof.Machine.execAtomicDwStxXor dst src off s
  | .atomicDwStxXorFetch dst src off => Sys2Proof.Machine.execAtomicDwStxXorFetch dst src off s
  | .atomicDwStxXchg dst src off => Sys2Proof.Machine.execAtomicDwStxXchg dst src off s
  | .atomicDwStxCmpxchg dst src off => Sys2Proof.Machine.execAtomicDwStxCmpxchg dst src off s
  | .immNext nextImm => Sys2Proof.Machine.execImmNext nextImm s
  | .immDwLdImm64 dst imm nextImm => Sys2Proof.Machine.execImmDwLdImm64 dst imm nextImm s
  | .immDwLdMapfd dst imm => Sys2Proof.Machine.execImmDwLdMapfd dst imm s
  | .immDwLdMapfdVal dst imm nextImm => Sys2Proof.Machine.execImmDwLdMapfdVal dst imm nextImm s
  | .immDwLdVaraddr dst imm => Sys2Proof.Machine.execImmDwLdVaraddr dst imm s
  | .immDwLdCodeaddr dst imm => Sys2Proof.Machine.execImmDwLdCodeaddr dst imm s
  | .immDwLdMapidx dst imm => Sys2Proof.Machine.execImmDwLdMapidx dst imm s
  | .immDwLdMapidxVal dst imm nextImm => Sys2Proof.Machine.execImmDwLdMapidxVal dst imm nextImm s
  | .absWLd imm => Sys2Proof.Machine.execAbsWLd imm s
  | .absHLd imm => Sys2Proof.Machine.execAbsHLd imm s
  | .absBLd imm => Sys2Proof.Machine.execAbsBLd imm s
  | .indWLd src imm => Sys2Proof.Machine.execIndWLd src imm s
  | .indHLd src imm => Sys2Proof.Machine.execIndHLd src imm s
  | .indBLd src imm => Sys2Proof.Machine.execIndBLd src imm s

end Sys2Proof.Machine
end

