-- ==== Sys2Proof/Decode.lean ====
section
/-! DEFINITION. Decoding, total on any bytes, refusing by name (30_encoding.md R90 to R111), and the encoder, written from the
same tables. -/

namespace Sys2Proof

/-- The five fields of a slot (30_encoding.md R91, R93, R94). -/
structure Fields where
  opcode : Byte
  dst : Reg
  src : Reg
  off : Off
  imm : Imm
  deriving DecidableEq, Repr

/-- The fields of a slot on a host (30_encoding.md R96): the host's byte order decides the nibbles of the second byte (R93)
and the byte order of `offset` and `imm` (R94). -/
def Slot.fields (e : Endian) (s : Slot) : Fields :=
  match e with
  | .little =>
    { opcode := s.b0
      dst := s.b1.extractLsb' 0 4
      src := s.b1.extractLsb' 4 4
      off := s.b3 ++ s.b2
      imm := s.b7 ++ s.b6 ++ s.b5 ++ s.b4 }
  | .big =>
    { opcode := s.b0
      dst := s.b1.extractLsb' 4 4
      src := s.b1.extractLsb' 0 4
      off := s.b2 ++ s.b3
      imm := s.b4 ++ s.b5 ++ s.b6 ++ s.b7 }

/-- The slot that holds the given fields on a host: R96 read backwards. -/
def Fields.slot (e : Endian) (f : Fields) : Slot :=
  match e with
  | .little =>
    { b0 := f.opcode
      b1 := f.src ++ f.dst
      b2 := f.off.extractLsb' 0 8
      b3 := f.off.extractLsb' 8 8
      b4 := f.imm.extractLsb' 0 8
      b5 := f.imm.extractLsb' 8 8
      b6 := f.imm.extractLsb' 16 8
      b7 := f.imm.extractLsb' 24 8 }
  | .big =>
    { b0 := f.opcode
      b1 := f.dst ++ f.src
      b2 := f.off.extractLsb' 8 8
      b3 := f.off.extractLsb' 0 8
      b4 := f.imm.extractLsb' 24 8
      b5 := f.imm.extractLsb' 16 8
      b6 := f.imm.extractLsb' 8 8
      b7 := f.imm.extractLsb' 0 8 }

/-- The fields of a canonical word `W = imm ++ off ++ src ++ dst ++ opcode` (30_encoding.md R96). -/
def canonicalFields (w : Nat) : Fields :=
  { opcode := BitVec.ofNat 8 w
    dst := BitVec.ofNat 4 (w / 2 ^ 8)
    src := BitVec.ofNat 4 (w / 2 ^ 12)
    off := BitVec.ofNat 16 (w / 2 ^ 16)
    imm := BitVec.ofNat 32 (w / 2 ^ 32) }

/-- Why a decoder refuses. Executed, each of them is `IllegalInstruction` (60_exceptions.md R463). -/
inductive DecodeError where
  /-- Fewer than the eight bytes of a slot (30_encoding.md R90). -/
  | truncated
  /-- A wide instruction with no slot after it (30_encoding.md R98, R111 item 5). -/
  | noSecondSlot
  /-- A second slot whose first 32 bits are not zero (30_encoding.md R95, R111 item 3). -/
  | badSecondSlot
  /-- An opcode byte with no row (30_encoding.md R111 item 1). -/
  | unassignedOpcode (opcode : Byte)
  /-- A selecting field outside its listed values (30_encoding.md R109, R111 item 2). -/
  | badSelector
  /-- A non-zero unused field (30_encoding.md R97, R111 item 3). -/
  | unusedField
  /-- A register number above 10 (10_state.md R34, 30_encoding.md R111 item 4). -/
  | badRegister
  deriving DecidableEq, Repr

/-- What decoding answers. -/
abbrev Decoded := Except DecodeError Instr

/-- Go on with `k` where `c` holds; otherwise refuse as `e`. -/
def demand (c : Bool) (e : DecodeError) (k : Decoded) : Decoded := if c then k else .error e

/-- A register number that exists (10_state.md R34). -/
def Reg.ok (r : Reg) : Bool := decide (r.toNat ≤ 10)

/-! The operand forms of 30_encoding.md R108. Each checks the fields that its rows leave unused (R97) and its register
numbers (R111 item 4). -/

/-- Arithmetic K form: `src_reg` unused. -/
def regImm (f : Fields) (mk : Reg → Imm → Instr) : Decoded :=
  demand (f.src == 0) .unusedField <| demand f.dst.ok .badRegister <| .ok (mk f.dst f.imm)

/-- Arithmetic X form: `imm` unused. -/
def regReg (f : Fields) (mk : Reg → Reg → Instr) : Decoded :=
  demand (f.imm == 0) .unusedField <| demand (f.dst.ok && f.src.ok) .badRegister <| .ok (mk f.dst f.src)

/-- NEG: `src_reg` and `imm` unused. -/
def reg1 (f : Fields) (mk : Reg → Instr) : Decoded :=
  demand (f.src == 0 && f.imm == 0) .unusedField <| demand f.dst.ok .badRegister <| .ok (mk f.dst)

/-- END: `src_reg` and `offset` unused; `imm` has selected the width (42_byteswap.md R260). -/
def regWidth (f : Fields) (mk : Reg → Instr) : Decoded :=
  demand (f.src == 0 && f.off == 0) .unusedField <| demand f.dst.ok .badRegister <| .ok (mk f.dst)

/-- Conditional jump, K form: `src_reg` unused. -/
def branchImm (f : Fields) (mk : Reg → Imm → Off → Instr) : Decoded :=
  demand (f.src == 0) .unusedField <| demand f.dst.ok .badRegister <| .ok (mk f.dst f.imm f.off)

/-- Conditional jump, X form: `imm` unused. -/
def branchReg (f : Fields) (mk : Reg → Reg → Off → Instr) : Decoded :=
  demand (f.imm == 0) .unusedField <| demand (f.dst.ok && f.src.ok) .badRegister <| .ok (mk f.dst f.src f.off)

/-- JA in class JMP: only `offset` is used. -/
def gotoOff (f : Fields) (mk : Off → Instr) : Decoded :=
  demand (f.dst == 0 && f.src == 0 && f.imm == 0) .unusedField <| .ok (mk f.off)

/-- JA in class JMP32: only `imm` is used. -/
def gotoImm (f : Fields) (mk : Imm → Instr) : Decoded :=
  demand (f.dst == 0 && f.src == 0 && f.off == 0) .unusedField <| .ok (mk f.imm)

/-- CALL: `dst_reg` and `offset` unused; `src_reg` has selected the kind. -/
def callImm (f : Fields) (mk : Imm → Instr) : Decoded :=
  demand (f.dst == 0 && f.off == 0) .unusedField <| .ok (mk f.imm)

/-- EXIT: no field is used. -/
def bare (f : Fields) (i : Instr) : Decoded :=
  demand (f.dst == 0 && f.src == 0 && f.off == 0 && f.imm == 0) .unusedField <| .ok i

/-- LDX and STX MEM: `imm` unused. -/
def regRegOff (f : Fields) (mk : Reg → Reg → Off → Instr) : Decoded :=
  demand (f.imm == 0) .unusedField <| demand (f.dst.ok && f.src.ok) .badRegister <| .ok (mk f.dst f.src f.off)

/-- ATOMIC: `imm` has selected the operation; the other fields are all used (46_atomic.md R390). -/
def atomicForm (f : Fields) (mk : Reg → Reg → Off → Instr) : Decoded :=
  demand (f.dst.ok && f.src.ok) .badRegister <| .ok (mk f.dst f.src f.off)

/-- ST: `src_reg` unused. -/
def storeImm (f : Fields) (mk : Reg → Off → Imm → Instr) : Decoded :=
  demand (f.src == 0) .unusedField <| demand f.dst.ok .badRegister <| .ok (mk f.dst f.off f.imm)

/-- ABS: only `imm` is used (48_packet.md R450). -/
def packetAbs (f : Fields) (mk : Imm → Instr) : Decoded :=
  demand (f.dst == 0 && f.src == 0 && f.off == 0) .unusedField <| .ok (mk f.imm)

/-- IND: `dst_reg` and `offset` unused (48_packet.md R450). -/
def packetInd (f : Fields) (mk : Reg → Imm → Instr) : Decoded :=
  demand (f.dst == 0 && f.off == 0) .unusedField <| demand f.src.ok .badRegister <| .ok (mk f.src f.imm)

/-- `offset` is unused and zero (30_encoding.md R97). -/
def noOff (f : Fields) (k : Decoded) : Decoded := demand (f.off == 0) .unusedField k

/-- Whether the first 32 bits of a slot are zero, as those of a second slot are (30_encoding.md R95). -/
def Fields.isNext (f : Fields) : Bool := f.opcode == 0 && f.dst == 0 && f.src == 0 && f.off == 0

/-- Decoding a slot in the position of a second slot (30_encoding.md R95, R98, R110; 47_imm64.md R431): `IMM_NEXT`, whose first 32 bits
are zero. In instruction position no slot is this row. -/
def decodeSecond (f : Fields) : Decoded := demand f.isNext .badSecondSlot <| .ok (.immNext f.imm)

/-- LD IMM DW: the second slot's first 32 bits and the first slot's `offset` are zero (47_imm64.md R430). -/
def wide (f : Fields) (second : Option Fields) (k : Imm → Decoded) : Decoded :=
  match second with
  | none => .error .noSecondSlot
  | some g =>
    demand g.isNext .badSecondSlot <|
      demand (f.off == 0) .unusedField <| demand f.dst.ok .badRegister <| k g.imm

/-- A subtype of LD IMM DW that does not use `next_imm` (47_imm64.md R430). -/
def noNext (next : Imm) (i : Instr) : Decoded := demand (next == 0) .unusedField <| .ok i

/-- Class LD (30_encoding.md R107, R109; 47_imm64.md, 48_packet.md). In instruction position opcode 0x00 matches no row (R98, R110). -/
def decodeLd (f : Fields) (second : Option Fields) : Decoded :=
  match f.opcode.toNat with
  | 0x18 => wide f second fun next =>
    match f.src.toNat with
    | 0 => .ok (.immDwLdImm64 f.dst f.imm next)
    | 1 => noNext next (.immDwLdMapfd f.dst f.imm)
    | 2 => .ok (.immDwLdMapfdVal f.dst f.imm next)
    | 3 => noNext next (.immDwLdVaraddr f.dst f.imm)
    | 4 => noNext next (.immDwLdCodeaddr f.dst f.imm)
    | 5 => noNext next (.immDwLdMapidx f.dst f.imm)
    | 6 => .ok (.immDwLdMapidxVal f.dst f.imm next)
    | _ => .error .badSelector
  | 0x20 => packetAbs f .absWLd
  | 0x28 => packetAbs f .absHLd
  | 0x30 => packetAbs f .absBLd
  | 0x40 => packetInd f .indWLd
  | 0x48 => packetInd f .indHLd
  | 0x50 => packetInd f .indBLd
  | _ => .error (.unassignedOpcode f.opcode)

/-- Class LDX (30_encoding.md R107, R109; 45_load_store.md). -/
def decodeLdx (f : Fields) : Decoded :=
  match f.opcode.toNat with
  | 0x61 => regRegOff f .memWLdx
  | 0x69 => regRegOff f .memHLdx
  | 0x71 => regRegOff f .memBLdx
  | 0x79 => regRegOff f .memDwLdx
  | 0x81 => regRegOff f .memsxWLdx
  | 0x89 => regRegOff f .memsxHLdx
  | 0x91 => regRegOff f .memsxBLdx
  | _ => .error (.unassignedOpcode f.opcode)

/-- Class ST (30_encoding.md R107, R109; 45_load_store.md). -/
def decodeSt (f : Fields) : Decoded :=
  match f.opcode.toNat with
  | 0x62 => storeImm f .memWSt
  | 0x6a => storeImm f .memHSt
  | 0x72 => storeImm f .memBSt
  | 0x7a => storeImm f .memDwSt
  | _ => .error (.unassignedOpcode f.opcode)

/-- Class STX (30_encoding.md R107, R109; 45_load_store.md, 46_atomic.md). -/
def decodeStx (f : Fields) : Decoded :=
  match f.opcode.toNat with
  | 0x63 => regRegOff f .memWStx
  | 0x6b => regRegOff f .memHStx
  | 0x73 => regRegOff f .memBStx
  | 0x7b => regRegOff f .memDwStx
  | 0xc3 =>
    match f.imm.toNat with
    | 0x00 => atomicForm f .atomicWStxAdd
    | 0x01 => atomicForm f .atomicWStxAddFetch
    | 0x40 => atomicForm f .atomicWStxOr
    | 0x41 => atomicForm f .atomicWStxOrFetch
    | 0x50 => atomicForm f .atomicWStxAnd
    | 0x51 => atomicForm f .atomicWStxAndFetch
    | 0xa0 => atomicForm f .atomicWStxXor
    | 0xa1 => atomicForm f .atomicWStxXorFetch
    | 0xe1 => atomicForm f .atomicWStxXchg
    | 0xf1 => atomicForm f .atomicWStxCmpxchg
    | _ => .error .badSelector
  | 0xdb =>
    match f.imm.toNat with
    | 0x00 => atomicForm f .atomicDwStxAdd
    | 0x01 => atomicForm f .atomicDwStxAddFetch
    | 0x40 => atomicForm f .atomicDwStxOr
    | 0x41 => atomicForm f .atomicDwStxOrFetch
    | 0x50 => atomicForm f .atomicDwStxAnd
    | 0x51 => atomicForm f .atomicDwStxAndFetch
    | 0xa0 => atomicForm f .atomicDwStxXor
    | 0xa1 => atomicForm f .atomicDwStxXorFetch
    | 0xe1 => atomicForm f .atomicDwStxXchg
    | 0xf1 => atomicForm f .atomicDwStxCmpxchg
    | _ => .error .badSelector
  | _ => .error (.unassignedOpcode f.opcode)

/-- Class ALU (30_encoding.md R102, R109; 40_alu32.md, 42_byteswap.md). -/
def decodeAlu (f : Fields) : Decoded :=
  match f.opcode.toNat with
  | 0x04 => noOff f <| regImm f .addKAlu
  | 0x0c => noOff f <| regReg f .addXAlu
  | 0x14 => noOff f <| regImm f .subKAlu
  | 0x1c => noOff f <| regReg f .subXAlu
  | 0x24 => noOff f <| regImm f .mulKAlu
  | 0x2c => noOff f <| regReg f .mulXAlu
  | 0x34 =>
    match f.off.toNat with
    | 0 => regImm f .divKAlu
    | 1 => regImm f .sdivKAlu
    | _ => .error .badSelector
  | 0x3c =>
    match f.off.toNat with
    | 0 => regReg f .divXAlu
    | 1 => regReg f .sdivXAlu
    | _ => .error .badSelector
  | 0x44 => noOff f <| regImm f .orKAlu
  | 0x4c => noOff f <| regReg f .orXAlu
  | 0x54 => noOff f <| regImm f .andKAlu
  | 0x5c => noOff f <| regReg f .andXAlu
  | 0x64 => noOff f <| regImm f .lshKAlu
  | 0x6c => noOff f <| regReg f .lshXAlu
  | 0x74 => noOff f <| regImm f .rshKAlu
  | 0x7c => noOff f <| regReg f .rshXAlu
  | 0x84 => noOff f <| reg1 f .negKAlu
  | 0x94 =>
    match f.off.toNat with
    | 0 => regImm f .modKAlu
    | 1 => regImm f .smodKAlu
    | _ => .error .badSelector
  | 0x9c =>
    match f.off.toNat with
    | 0 => regReg f .modXAlu
    | 1 => regReg f .smodXAlu
    | _ => .error .badSelector
  | 0xa4 => noOff f <| regImm f .xorKAlu
  | 0xac => noOff f <| regReg f .xorXAlu
  | 0xb4 => noOff f <| regImm f .movKAlu
  | 0xbc =>
    match f.off.toNat with
    | 0 => regReg f .movXAlu
    | 8 => regReg f .movsx8XAlu
    | 16 => regReg f .movsx16XAlu
    | _ => .error .badSelector
  | 0xc4 => noOff f <| regImm f .arshKAlu
  | 0xcc => noOff f <| regReg f .arshXAlu
  | 0xd4 =>
    match f.imm.toNat with
    | 0x10 => regWidth f .endLeAlu16
    | 0x20 => regWidth f .endLeAlu32
    | 0x40 => regWidth f .endLeAlu64
    | _ => .error .badSelector
  | 0xdc =>
    match f.imm.toNat with
    | 0x10 => regWidth f .endBeAlu16
    | 0x20 => regWidth f .endBeAlu32
    | 0x40 => regWidth f .endBeAlu64
    | _ => .error .badSelector
  | _ => .error (.unassignedOpcode f.opcode)

/-- Class JMP (30_encoding.md R103, R109; 43_jump.md, 44_call_exit.md). -/
def decodeJmp (f : Fields) : Decoded :=
  match f.opcode.toNat with
  | 0x05 => gotoOff f .jaKJmp
  | 0x15 => branchImm f .jeqKJmp
  | 0x1d => branchReg f .jeqXJmp
  | 0x25 => branchImm f .jgtKJmp
  | 0x2d => branchReg f .jgtXJmp
  | 0x35 => branchImm f .jgeKJmp
  | 0x3d => branchReg f .jgeXJmp
  | 0x45 => branchImm f .jsetKJmp
  | 0x4d => branchReg f .jsetXJmp
  | 0x55 => branchImm f .jneKJmp
  | 0x5d => branchReg f .jneXJmp
  | 0x65 => branchImm f .jsgtKJmp
  | 0x6d => branchReg f .jsgtXJmp
  | 0x75 => branchImm f .jsgeKJmp
  | 0x7d => branchReg f .jsgeXJmp
  | 0x85 =>
    match f.src.toNat with
    | 0 => callImm f .callKJmpHelper
    | 1 => callImm f .callKJmpLocal
    | 2 => callImm f .callKJmpBtf
    | _ => .error .badSelector
  | 0x95 => bare f .exitKJmp
  | 0xa5 => branchImm f .jltKJmp
  | 0xad => branchReg f .jltXJmp
  | 0xb5 => branchImm f .jleKJmp
  | 0xbd => branchReg f .jleXJmp
  | 0xc5 => branchImm f .jsltKJmp
  | 0xcd => branchReg f .jsltXJmp
  | 0xd5 => branchImm f .jsleKJmp
  | 0xdd => branchReg f .jsleXJmp
  | _ => .error (.unassignedOpcode f.opcode)

/-- Class JMP32 (30_encoding.md R103, R109; 43_jump.md). -/
def decodeJmp32 (f : Fields) : Decoded :=
  match f.opcode.toNat with
  | 0x06 => gotoImm f .jaKJmp32
  | 0x16 => branchImm f .jeqKJmp32
  | 0x1e => branchReg f .jeqXJmp32
  | 0x26 => branchImm f .jgtKJmp32
  | 0x2e => branchReg f .jgtXJmp32
  | 0x36 => branchImm f .jgeKJmp32
  | 0x3e => branchReg f .jgeXJmp32
  | 0x46 => branchImm f .jsetKJmp32
  | 0x4e => branchReg f .jsetXJmp32
  | 0x56 => branchImm f .jneKJmp32
  | 0x5e => branchReg f .jneXJmp32
  | 0x66 => branchImm f .jsgtKJmp32
  | 0x6e => branchReg f .jsgtXJmp32
  | 0x76 => branchImm f .jsgeKJmp32
  | 0x7e => branchReg f .jsgeXJmp32
  | 0xa6 => branchImm f .jltKJmp32
  | 0xae => branchReg f .jltXJmp32
  | 0xb6 => branchImm f .jleKJmp32
  | 0xbe => branchReg f .jleXJmp32
  | 0xc6 => branchImm f .jsltKJmp32
  | 0xce => branchReg f .jsltXJmp32
  | 0xd6 => branchImm f .jsleKJmp32
  | 0xde => branchReg f .jsleXJmp32
  | _ => .error (.unassignedOpcode f.opcode)

/-- Class ALU64 (30_encoding.md R102, R109; 41_alu64.md, 42_byteswap.md). -/
def decodeAlu64 (f : Fields) : Decoded :=
  match f.opcode.toNat with
  | 0x07 => noOff f <| regImm f .addKAlu64
  | 0x0f => noOff f <| regReg f .addXAlu64
  | 0x17 => noOff f <| regImm f .subKAlu64
  | 0x1f => noOff f <| regReg f .subXAlu64
  | 0x27 => noOff f <| regImm f .mulKAlu64
  | 0x2f => noOff f <| regReg f .mulXAlu64
  | 0x37 =>
    match f.off.toNat with
    | 0 => regImm f .divKAlu64
    | 1 => regImm f .sdivKAlu64
    | _ => .error .badSelector
  | 0x3f =>
    match f.off.toNat with
    | 0 => regReg f .divXAlu64
    | 1 => regReg f .sdivXAlu64
    | _ => .error .badSelector
  | 0x47 => noOff f <| regImm f .orKAlu64
  | 0x4f => noOff f <| regReg f .orXAlu64
  | 0x57 => noOff f <| regImm f .andKAlu64
  | 0x5f => noOff f <| regReg f .andXAlu64
  | 0x67 => noOff f <| regImm f .lshKAlu64
  | 0x6f => noOff f <| regReg f .lshXAlu64
  | 0x77 => noOff f <| regImm f .rshKAlu64
  | 0x7f => noOff f <| regReg f .rshXAlu64
  | 0x87 => noOff f <| reg1 f .negKAlu64
  | 0x97 =>
    match f.off.toNat with
    | 0 => regImm f .modKAlu64
    | 1 => regImm f .smodKAlu64
    | _ => .error .badSelector
  | 0x9f =>
    match f.off.toNat with
    | 0 => regReg f .modXAlu64
    | 1 => regReg f .smodXAlu64
    | _ => .error .badSelector
  | 0xa7 => noOff f <| regImm f .xorKAlu64
  | 0xaf => noOff f <| regReg f .xorXAlu64
  | 0xb7 => noOff f <| regImm f .movKAlu64
  | 0xbf =>
    match f.off.toNat with
    | 0 => regReg f .movXAlu64
    | 8 => regReg f .movsx8XAlu64
    | 16 => regReg f .movsx16XAlu64
    | 32 => regReg f .movsx32XAlu64
    | _ => .error .badSelector
  | 0xc7 => noOff f <| regImm f .arshKAlu64
  | 0xcf => noOff f <| regReg f .arshXAlu64
  | 0xd7 =>
    match f.imm.toNat with
    | 0x10 => regWidth f .endToAlu6416
    | 0x20 => regWidth f .endToAlu6432
    | 0x40 => regWidth f .endToAlu6464
    | _ => .error .badSelector
  | _ => .error (.unassignedOpcode f.opcode)

/-- Decoding the fields of a slot, with the fields of the slot after it where there is one (30_encoding.md R92, R99, R110). -/
def decodeFields (f : Fields) (second : Option Fields) : Decoded :=
  match f.opcode.toNat % 8 with
  | 0 => decodeLd f second
  | 1 => decodeLdx f
  | 2 => decodeSt f
  | 3 => decodeStx f
  | 4 => decodeAlu f
  | 5 => decodeJmp f
  | 6 => decodeJmp32 f
  | _ => decodeAlu64 f

/-- The row of the opcode table that a slot matches in the position which the row describes (30_encoding.md R110): the second slot of a
wide instruction for opcode 0x00, instruction position for every other. -/
def decodeRow (f : Fields) (second : Option Fields) : Decoded :=
  if f.opcode = 0 then decodeSecond f else decodeFields f second

/-- Decoding at a slot (60_exceptions.md R462). -/
def decodeSlots (e : Endian) (first : Slot) (second : Option Slot) : Decoded :=
  decodeFields (first.fields e) (second.map (Slot.fields e))

/-- The first slot of a byte string and the bytes after it (30_encoding.md R90). -/
def takeSlot : List Byte → Option (Slot × List Byte)
  | b0 :: b1 :: b2 :: b3 :: b4 :: b5 :: b6 :: b7 :: rest => some (⟨b0, b1, b2, b3, b4, b5, b6, b7⟩, rest)
  | _ => none

/-- Whether a slot starts a wide instruction (30_encoding.md R98). The opcode byte has no byte order (20_memory.md R63). -/
def Slot.isWide (s : Slot) : Bool := s.b0 == 0x18

/-- Decoding any bytes: the instruction at their start and the bytes after it, or the reason why there is none. -/
def decode (e : Endian) (bytes : List Byte) : Except DecodeError (Instr × List Byte) :=
  match takeSlot bytes with
  | none => .error .truncated
  | some (first, rest) =>
    if first.isWide then
      match takeSlot rest with
      | none => .error .noSecondSlot
      | some (second, rest') => (decodeSlots e first (some second)).map fun i => (i, rest')
    else (decodeSlots e first none).map fun i => (i, rest)

/-- The fields of the second slot of a wide instruction (30_encoding.md R95). -/
def secondSlot (next : Imm) : Option Fields := some ⟨0, 0, 0, 0, next⟩

/-- The fields of an instruction's first slot, and of its second where it is wide: the opcode bytes of 30_encoding.md R102,
R103 and R107, the selecting fields of R109, zero in every unused field (R97). -/
def encodeFields : Instr → Fields × Option Fields
  | .addKAlu dst imm => (⟨0x04, dst, 0, 0, imm⟩, none)
  | .addXAlu dst src => (⟨0x0c, dst, src, 0, 0⟩, none)
  | .subKAlu dst imm => (⟨0x14, dst, 0, 0, imm⟩, none)
  | .subXAlu dst src => (⟨0x1c, dst, src, 0, 0⟩, none)
  | .mulKAlu dst imm => (⟨0x24, dst, 0, 0, imm⟩, none)
  | .mulXAlu dst src => (⟨0x2c, dst, src, 0, 0⟩, none)
  | .divKAlu dst imm => (⟨0x34, dst, 0, 0, imm⟩, none)
  | .divXAlu dst src => (⟨0x3c, dst, src, 0, 0⟩, none)
  | .sdivKAlu dst imm => (⟨0x34, dst, 0, 1, imm⟩, none)
  | .sdivXAlu dst src => (⟨0x3c, dst, src, 1, 0⟩, none)
  | .orKAlu dst imm => (⟨0x44, dst, 0, 0, imm⟩, none)
  | .orXAlu dst src => (⟨0x4c, dst, src, 0, 0⟩, none)
  | .andKAlu dst imm => (⟨0x54, dst, 0, 0, imm⟩, none)
  | .andXAlu dst src => (⟨0x5c, dst, src, 0, 0⟩, none)
  | .lshKAlu dst imm => (⟨0x64, dst, 0, 0, imm⟩, none)
  | .lshXAlu dst src => (⟨0x6c, dst, src, 0, 0⟩, none)
  | .rshKAlu dst imm => (⟨0x74, dst, 0, 0, imm⟩, none)
  | .rshXAlu dst src => (⟨0x7c, dst, src, 0, 0⟩, none)
  | .negKAlu dst => (⟨0x84, dst, 0, 0, 0⟩, none)
  | .modKAlu dst imm => (⟨0x94, dst, 0, 0, imm⟩, none)
  | .modXAlu dst src => (⟨0x9c, dst, src, 0, 0⟩, none)
  | .smodKAlu dst imm => (⟨0x94, dst, 0, 1, imm⟩, none)
  | .smodXAlu dst src => (⟨0x9c, dst, src, 1, 0⟩, none)
  | .xorKAlu dst imm => (⟨0xa4, dst, 0, 0, imm⟩, none)
  | .xorXAlu dst src => (⟨0xac, dst, src, 0, 0⟩, none)
  | .movKAlu dst imm => (⟨0xb4, dst, 0, 0, imm⟩, none)
  | .movXAlu dst src => (⟨0xbc, dst, src, 0, 0⟩, none)
  | .movsx8XAlu dst src => (⟨0xbc, dst, src, 8, 0⟩, none)
  | .movsx16XAlu dst src => (⟨0xbc, dst, src, 16, 0⟩, none)
  | .arshKAlu dst imm => (⟨0xc4, dst, 0, 0, imm⟩, none)
  | .arshXAlu dst src => (⟨0xcc, dst, src, 0, 0⟩, none)
  | .addKAlu64 dst imm => (⟨0x07, dst, 0, 0, imm⟩, none)
  | .addXAlu64 dst src => (⟨0x0f, dst, src, 0, 0⟩, none)
  | .subKAlu64 dst imm => (⟨0x17, dst, 0, 0, imm⟩, none)
  | .subXAlu64 dst src => (⟨0x1f, dst, src, 0, 0⟩, none)
  | .mulKAlu64 dst imm => (⟨0x27, dst, 0, 0, imm⟩, none)
  | .mulXAlu64 dst src => (⟨0x2f, dst, src, 0, 0⟩, none)
  | .divKAlu64 dst imm => (⟨0x37, dst, 0, 0, imm⟩, none)
  | .divXAlu64 dst src => (⟨0x3f, dst, src, 0, 0⟩, none)
  | .sdivKAlu64 dst imm => (⟨0x37, dst, 0, 1, imm⟩, none)
  | .sdivXAlu64 dst src => (⟨0x3f, dst, src, 1, 0⟩, none)
  | .orKAlu64 dst imm => (⟨0x47, dst, 0, 0, imm⟩, none)
  | .orXAlu64 dst src => (⟨0x4f, dst, src, 0, 0⟩, none)
  | .andKAlu64 dst imm => (⟨0x57, dst, 0, 0, imm⟩, none)
  | .andXAlu64 dst src => (⟨0x5f, dst, src, 0, 0⟩, none)
  | .lshKAlu64 dst imm => (⟨0x67, dst, 0, 0, imm⟩, none)
  | .lshXAlu64 dst src => (⟨0x6f, dst, src, 0, 0⟩, none)
  | .rshKAlu64 dst imm => (⟨0x77, dst, 0, 0, imm⟩, none)
  | .rshXAlu64 dst src => (⟨0x7f, dst, src, 0, 0⟩, none)
  | .negKAlu64 dst => (⟨0x87, dst, 0, 0, 0⟩, none)
  | .modKAlu64 dst imm => (⟨0x97, dst, 0, 0, imm⟩, none)
  | .modXAlu64 dst src => (⟨0x9f, dst, src, 0, 0⟩, none)
  | .smodKAlu64 dst imm => (⟨0x97, dst, 0, 1, imm⟩, none)
  | .smodXAlu64 dst src => (⟨0x9f, dst, src, 1, 0⟩, none)
  | .xorKAlu64 dst imm => (⟨0xa7, dst, 0, 0, imm⟩, none)
  | .xorXAlu64 dst src => (⟨0xaf, dst, src, 0, 0⟩, none)
  | .movKAlu64 dst imm => (⟨0xb7, dst, 0, 0, imm⟩, none)
  | .movXAlu64 dst src => (⟨0xbf, dst, src, 0, 0⟩, none)
  | .movsx8XAlu64 dst src => (⟨0xbf, dst, src, 8, 0⟩, none)
  | .movsx16XAlu64 dst src => (⟨0xbf, dst, src, 16, 0⟩, none)
  | .movsx32XAlu64 dst src => (⟨0xbf, dst, src, 32, 0⟩, none)
  | .arshKAlu64 dst imm => (⟨0xc7, dst, 0, 0, imm⟩, none)
  | .arshXAlu64 dst src => (⟨0xcf, dst, src, 0, 0⟩, none)
  | .endLeAlu16 dst => (⟨0xd4, dst, 0, 0, 0x10⟩, none)
  | .endLeAlu32 dst => (⟨0xd4, dst, 0, 0, 0x20⟩, none)
  | .endLeAlu64 dst => (⟨0xd4, dst, 0, 0, 0x40⟩, none)
  | .endBeAlu16 dst => (⟨0xdc, dst, 0, 0, 0x10⟩, none)
  | .endBeAlu32 dst => (⟨0xdc, dst, 0, 0, 0x20⟩, none)
  | .endBeAlu64 dst => (⟨0xdc, dst, 0, 0, 0x40⟩, none)
  | .endToAlu6416 dst => (⟨0xd7, dst, 0, 0, 0x10⟩, none)
  | .endToAlu6432 dst => (⟨0xd7, dst, 0, 0, 0x20⟩, none)
  | .endToAlu6464 dst => (⟨0xd7, dst, 0, 0, 0x40⟩, none)
  | .jaKJmp off => (⟨0x05, 0, 0, off, 0⟩, none)
  | .jaKJmp32 imm => (⟨0x06, 0, 0, 0, imm⟩, none)
  | .jeqKJmp dst imm off => (⟨0x15, dst, 0, off, imm⟩, none)
  | .jeqXJmp dst src off => (⟨0x1d, dst, src, off, 0⟩, none)
  | .jeqKJmp32 dst imm off => (⟨0x16, dst, 0, off, imm⟩, none)
  | .jeqXJmp32 dst src off => (⟨0x1e, dst, src, off, 0⟩, none)
  | .jgtKJmp dst imm off => (⟨0x25, dst, 0, off, imm⟩, none)
  | .jgtXJmp dst src off => (⟨0x2d, dst, src, off, 0⟩, none)
  | .jgtKJmp32 dst imm off => (⟨0x26, dst, 0, off, imm⟩, none)
  | .jgtXJmp32 dst src off => (⟨0x2e, dst, src, off, 0⟩, none)
  | .jgeKJmp dst imm off => (⟨0x35, dst, 0, off, imm⟩, none)
  | .jgeXJmp dst src off => (⟨0x3d, dst, src, off, 0⟩, none)
  | .jgeKJmp32 dst imm off => (⟨0x36, dst, 0, off, imm⟩, none)
  | .jgeXJmp32 dst src off => (⟨0x3e, dst, src, off, 0⟩, none)
  | .jsetKJmp dst imm off => (⟨0x45, dst, 0, off, imm⟩, none)
  | .jsetXJmp dst src off => (⟨0x4d, dst, src, off, 0⟩, none)
  | .jsetKJmp32 dst imm off => (⟨0x46, dst, 0, off, imm⟩, none)
  | .jsetXJmp32 dst src off => (⟨0x4e, dst, src, off, 0⟩, none)
  | .jneKJmp dst imm off => (⟨0x55, dst, 0, off, imm⟩, none)
  | .jneXJmp dst src off => (⟨0x5d, dst, src, off, 0⟩, none)
  | .jneKJmp32 dst imm off => (⟨0x56, dst, 0, off, imm⟩, none)
  | .jneXJmp32 dst src off => (⟨0x5e, dst, src, off, 0⟩, none)
  | .jsgtKJmp dst imm off => (⟨0x65, dst, 0, off, imm⟩, none)
  | .jsgtXJmp dst src off => (⟨0x6d, dst, src, off, 0⟩, none)
  | .jsgtKJmp32 dst imm off => (⟨0x66, dst, 0, off, imm⟩, none)
  | .jsgtXJmp32 dst src off => (⟨0x6e, dst, src, off, 0⟩, none)
  | .jsgeKJmp dst imm off => (⟨0x75, dst, 0, off, imm⟩, none)
  | .jsgeXJmp dst src off => (⟨0x7d, dst, src, off, 0⟩, none)
  | .jsgeKJmp32 dst imm off => (⟨0x76, dst, 0, off, imm⟩, none)
  | .jsgeXJmp32 dst src off => (⟨0x7e, dst, src, off, 0⟩, none)
  | .jltKJmp dst imm off => (⟨0xa5, dst, 0, off, imm⟩, none)
  | .jltXJmp dst src off => (⟨0xad, dst, src, off, 0⟩, none)
  | .jltKJmp32 dst imm off => (⟨0xa6, dst, 0, off, imm⟩, none)
  | .jltXJmp32 dst src off => (⟨0xae, dst, src, off, 0⟩, none)
  | .jleKJmp dst imm off => (⟨0xb5, dst, 0, off, imm⟩, none)
  | .jleXJmp dst src off => (⟨0xbd, dst, src, off, 0⟩, none)
  | .jleKJmp32 dst imm off => (⟨0xb6, dst, 0, off, imm⟩, none)
  | .jleXJmp32 dst src off => (⟨0xbe, dst, src, off, 0⟩, none)
  | .jsltKJmp dst imm off => (⟨0xc5, dst, 0, off, imm⟩, none)
  | .jsltXJmp dst src off => (⟨0xcd, dst, src, off, 0⟩, none)
  | .jsltKJmp32 dst imm off => (⟨0xc6, dst, 0, off, imm⟩, none)
  | .jsltXJmp32 dst src off => (⟨0xce, dst, src, off, 0⟩, none)
  | .jsleKJmp dst imm off => (⟨0xd5, dst, 0, off, imm⟩, none)
  | .jsleXJmp dst src off => (⟨0xdd, dst, src, off, 0⟩, none)
  | .jsleKJmp32 dst imm off => (⟨0xd6, dst, 0, off, imm⟩, none)
  | .jsleXJmp32 dst src off => (⟨0xde, dst, src, off, 0⟩, none)
  | .callKJmpHelper imm => (⟨0x85, 0, 0, 0, imm⟩, none)
  | .callKJmpLocal imm => (⟨0x85, 0, 1, 0, imm⟩, none)
  | .callKJmpBtf imm => (⟨0x85, 0, 2, 0, imm⟩, none)
  | .exitKJmp => (⟨0x95, 0, 0, 0, 0⟩, none)
  | .memBLdx dst src off => (⟨0x71, dst, src, off, 0⟩, none)
  | .memHLdx dst src off => (⟨0x69, dst, src, off, 0⟩, none)
  | .memWLdx dst src off => (⟨0x61, dst, src, off, 0⟩, none)
  | .memDwLdx dst src off => (⟨0x79, dst, src, off, 0⟩, none)
  | .memBSt dst off imm => (⟨0x72, dst, 0, off, imm⟩, none)
  | .memHSt dst off imm => (⟨0x6a, dst, 0, off, imm⟩, none)
  | .memWSt dst off imm => (⟨0x62, dst, 0, off, imm⟩, none)
  | .memDwSt dst off imm => (⟨0x7a, dst, 0, off, imm⟩, none)
  | .memBStx dst src off => (⟨0x73, dst, src, off, 0⟩, none)
  | .memHStx dst src off => (⟨0x6b, dst, src, off, 0⟩, none)
  | .memWStx dst src off => (⟨0x63, dst, src, off, 0⟩, none)
  | .memDwStx dst src off => (⟨0x7b, dst, src, off, 0⟩, none)
  | .memsxBLdx dst src off => (⟨0x91, dst, src, off, 0⟩, none)
  | .memsxHLdx dst src off => (⟨0x89, dst, src, off, 0⟩, none)
  | .memsxWLdx dst src off => (⟨0x81, dst, src, off, 0⟩, none)
  | .atomicWStxAdd dst src off => (⟨0xc3, dst, src, off, 0⟩, none)
  | .atomicWStxAddFetch dst src off => (⟨0xc3, dst, src, off, 0x01⟩, none)
  | .atomicWStxOr dst src off => (⟨0xc3, dst, src, off, 0x40⟩, none)
  | .atomicWStxOrFetch dst src off => (⟨0xc3, dst, src, off, 0x41⟩, none)
  | .atomicWStxAnd dst src off => (⟨0xc3, dst, src, off, 0x50⟩, none)
  | .atomicWStxAndFetch dst src off => (⟨0xc3, dst, src, off, 0x51⟩, none)
  | .atomicWStxXor dst src off => (⟨0xc3, dst, src, off, 0xa0⟩, none)
  | .atomicWStxXorFetch dst src off => (⟨0xc3, dst, src, off, 0xa1⟩, none)
  | .atomicWStxXchg dst src off => (⟨0xc3, dst, src, off, 0xe1⟩, none)
  | .atomicWStxCmpxchg dst src off => (⟨0xc3, dst, src, off, 0xf1⟩, none)
  | .atomicDwStxAdd dst src off => (⟨0xdb, dst, src, off, 0⟩, none)
  | .atomicDwStxAddFetch dst src off => (⟨0xdb, dst, src, off, 0x01⟩, none)
  | .atomicDwStxOr dst src off => (⟨0xdb, dst, src, off, 0x40⟩, none)
  | .atomicDwStxOrFetch dst src off => (⟨0xdb, dst, src, off, 0x41⟩, none)
  | .atomicDwStxAnd dst src off => (⟨0xdb, dst, src, off, 0x50⟩, none)
  | .atomicDwStxAndFetch dst src off => (⟨0xdb, dst, src, off, 0x51⟩, none)
  | .atomicDwStxXor dst src off => (⟨0xdb, dst, src, off, 0xa0⟩, none)
  | .atomicDwStxXorFetch dst src off => (⟨0xdb, dst, src, off, 0xa1⟩, none)
  | .atomicDwStxXchg dst src off => (⟨0xdb, dst, src, off, 0xe1⟩, none)
  | .atomicDwStxCmpxchg dst src off => (⟨0xdb, dst, src, off, 0xf1⟩, none)
  | .immNext nextImm => (⟨0x00, 0, 0, 0, nextImm⟩, none)
  | .immDwLdImm64 dst imm nextImm => (⟨0x18, dst, 0, 0, imm⟩, secondSlot nextImm)
  | .immDwLdMapfd dst imm => (⟨0x18, dst, 1, 0, imm⟩, secondSlot 0)
  | .immDwLdMapfdVal dst imm nextImm => (⟨0x18, dst, 2, 0, imm⟩, secondSlot nextImm)
  | .immDwLdVaraddr dst imm => (⟨0x18, dst, 3, 0, imm⟩, secondSlot 0)
  | .immDwLdCodeaddr dst imm => (⟨0x18, dst, 4, 0, imm⟩, secondSlot 0)
  | .immDwLdMapidx dst imm => (⟨0x18, dst, 5, 0, imm⟩, secondSlot 0)
  | .immDwLdMapidxVal dst imm nextImm => (⟨0x18, dst, 6, 0, imm⟩, secondSlot nextImm)
  | .absWLd imm => (⟨0x20, 0, 0, 0, imm⟩, none)
  | .absHLd imm => (⟨0x28, 0, 0, 0, imm⟩, none)
  | .absBLd imm => (⟨0x30, 0, 0, 0, imm⟩, none)
  | .indWLd src imm => (⟨0x40, 0, src, 0, imm⟩, none)
  | .indHLd src imm => (⟨0x48, 0, src, 0, imm⟩, none)
  | .indBLd src imm => (⟨0x50, 0, src, 0, imm⟩, none)

/-- The slots of an instruction on a host. -/
def encodeSlots (e : Endian) (i : Instr) : List Slot :=
  (encodeFields i).1.slot e :: (encodeFields i).2.toList.map (Fields.slot e)

/-- The bytes of an instruction on a host, the lowest address first. -/
def encode (e : Endian) (i : Instr) : List Byte := (encodeSlots e i).flatMap Slot.bytes

/-- The two slots that an instruction of the opcode table occupies where its canonical words are the low 64 bits of `w`
and the next 64, every bit from `nbits` up being zero. -/
def tableSlots (e : Endian) (nbits w : Nat) : Slot × Slot :=
  ((canonicalFields (w % 2 ^ nbits)).slot e, (canonicalFields (w % 2 ^ nbits / 2 ^ 64)).slot e)

/-- The instruction that a row of the opcode table stands for, read in the position that the row describes (30_encoding.md R110,
log 17). The words are laid out for a little-endian host, the byte order of `State.reset`; by R96 the canonical word is the same on
both. -/
def decodeTableWord (nbits w : Nat) : Option Instr :=
  match decodeRow ((tableSlots .little nbits w).1.fields .little) (some ((tableSlots .little nbits w).2.fields .little)) with
  | .ok i => some i
  | .error _ => none

end Sys2Proof
end

