-- ==== Sys2Proof/Machine/Fetch.lean ====
section
/-! DEFINITION. Fetching (60_exceptions.md R462 to R465): which slots are second slots, and the instruction at `pc`. -/

namespace Sys2Proof.Machine

/-- For each slot of a program, whether it is the second slot of a wide instruction (60_exceptions.md R462): a scan from slot
0 in which a slot in instruction position whose opcode is 0x18 marks the slot after it. `after` says that the slot before was
such a slot. -/
def secondSlots (after : Bool) : List Slot → List Bool
  | [] => []
  | s :: rest => after :: secondSlots (!after && s.isWide) rest

/-- Whether slot `p` of a program is the second slot of a wide instruction. -/
def isSecondSlot (program : List Slot) (p : Nat) : Bool := (secondSlots false program)[p]?.getD false

/-- The instruction at `pc`, or the fault that its fetch raises, in the order of 60_exceptions.md R474. -/
def fetch (s : State) : Except Fault Instr :=
  if s.pc < 0 then .error (.pcOutOfRange s.pc)
  else
    match s.program[s.pc.toNat]? with
    | none => .error (.pcOutOfRange s.pc)
    | some slot =>
      if isSecondSlot s.program s.pc.toNat then .error (.jumpIntoWide s.pc)
      else
        match decodeSlots s.platform.endian slot s.program[s.pc.toNat + 1]? with
        | .ok i => .ok i
        | .error _ => .error (.illegalInstruction s.pc)

/-- A program with the two slots `a` and `b` from slot `p` on, and the slots before `p` changed only so far that `p` exists and
is in instruction position. -/
def placeSlots (program : List Slot) (p : Nat) (a b : Slot) : List Slot :=
  let before := (program ++ List.replicate p Slot.zero).take p
  let clear := if isSecondSlot (before ++ [a]) p then before.take (p - 1) ++ [Slot.zero] else before
  clear ++ [a, b] ++ program.drop (p + 2)

end Sys2Proof.Machine
end

