-- ==== Sys2Proof/Machine/Step.lean ====
section
/-! DEFINITION. One step of the machine (60_exceptions.md R462), and the placing of one instruction where it is fetched. -/

namespace Sys2Proof.Machine

/-- One step. A run that has ended stays as it is (10_state.md R54, log 14). Before each instruction the environment acts
(20_memory.md R72); then the instruction at `pc` is fetched and executed. -/
def step (s : State) : Host.Outcome State Fault Refusal :=
  match s.status with
  | .ended _ => .next s
  | .running =>
    match fetch s.interfere with
    | .error f => .fault f
    | .ok i => exec i s.interfere

/-- `s` with the table's words `w` stored as the slots at `pc`, and the run going on, so that the next step fetches and executes
them. The program is loaded from outside the machine (log 18): this stands for that load. -/
def State.withFetchWord (s : State) (nbits w : Nat) : State :=
  { s with
    pc := s.pc.toNat
    status := .running
    program :=
      placeSlots s.program s.pc.toNat (tableSlots s.platform.endian nbits w).1 (tableSlots s.platform.endian nbits w).2 }

end Sys2Proof.Machine
end

