-- ==== Sys2Proof/Machine/Load.lean ====
section
/-! DEFINITION. The check of a whole program before it runs (70_reset_and_hazards.md R502). `step` does not apply it: the check at
each step is the reference (R502, log 24). -/

namespace Sys2Proof.Machine

/-- The displacement in slots of a jump or program-local call, relative to `next_pc` (43_jump.md R280, 44_call_exit.md R341). -/
def displacement : Instr → Option Int
  | .addKAlu _ _ => none
  | .addXAlu _ _ => none
  | .subKAlu _ _ => none
  | .subXAlu _ _ => none
  | .mulKAlu _ _ => none
  | .mulXAlu _ _ => none
  | .divKAlu _ _ => none
  | .divXAlu _ _ => none
  | .sdivKAlu _ _ => none
  | .sdivXAlu _ _ => none
  | .orKAlu _ _ => none
  | .orXAlu _ _ => none
  | .andKAlu _ _ => none
  | .andXAlu _ _ => none
  | .lshKAlu _ _ => none
  | .lshXAlu _ _ => none
  | .rshKAlu _ _ => none
  | .rshXAlu _ _ => none
  | .negKAlu _ => none
  | .modKAlu _ _ => none
  | .modXAlu _ _ => none
  | .smodKAlu _ _ => none
  | .smodXAlu _ _ => none
  | .xorKAlu _ _ => none
  | .xorXAlu _ _ => none
  | .movKAlu _ _ => none
  | .movXAlu _ _ => none
  | .movsx8XAlu _ _ => none
  | .movsx16XAlu _ _ => none
  | .arshKAlu _ _ => none
  | .arshXAlu _ _ => none
  | .addKAlu64 _ _ => none
  | .addXAlu64 _ _ => none
  | .subKAlu64 _ _ => none
  | .subXAlu64 _ _ => none
  | .mulKAlu64 _ _ => none
  | .mulXAlu64 _ _ => none
  | .divKAlu64 _ _ => none
  | .divXAlu64 _ _ => none
  | .sdivKAlu64 _ _ => none
  | .sdivXAlu64 _ _ => none
  | .orKAlu64 _ _ => none
  | .orXAlu64 _ _ => none
  | .andKAlu64 _ _ => none
  | .andXAlu64 _ _ => none
  | .lshKAlu64 _ _ => none
  | .lshXAlu64 _ _ => none
  | .rshKAlu64 _ _ => none
  | .rshXAlu64 _ _ => none
  | .negKAlu64 _ => none
  | .modKAlu64 _ _ => none
  | .modXAlu64 _ _ => none
  | .smodKAlu64 _ _ => none
  | .smodXAlu64 _ _ => none
  | .xorKAlu64 _ _ => none
  | .xorXAlu64 _ _ => none
  | .movKAlu64 _ _ => none
  | .movXAlu64 _ _ => none
  | .movsx8XAlu64 _ _ => none
  | .movsx16XAlu64 _ _ => none
  | .movsx32XAlu64 _ _ => none
  | .arshKAlu64 _ _ => none
  | .arshXAlu64 _ _ => none
  | .endLeAlu16 _ => none
  | .endLeAlu32 _ => none
  | .endLeAlu64 _ => none
  | .endBeAlu16 _ => none
  | .endBeAlu32 _ => none
  | .endBeAlu64 _ => none
  | .endToAlu6416 _ => none
  | .endToAlu6432 _ => none
  | .endToAlu6464 _ => none
  | .jaKJmp off => some off.toInt
  | .jaKJmp32 imm => some imm.toInt
  | .jeqKJmp _ _ off => some off.toInt
  | .jeqXJmp _ _ off => some off.toInt
  | .jeqKJmp32 _ _ off => some off.toInt
  | .jeqXJmp32 _ _ off => some off.toInt
  | .jgtKJmp _ _ off => some off.toInt
  | .jgtXJmp _ _ off => some off.toInt
  | .jgtKJmp32 _ _ off => some off.toInt
  | .jgtXJmp32 _ _ off => some off.toInt
  | .jgeKJmp _ _ off => some off.toInt
  | .jgeXJmp _ _ off => some off.toInt
  | .jgeKJmp32 _ _ off => some off.toInt
  | .jgeXJmp32 _ _ off => some off.toInt
  | .jsetKJmp _ _ off => some off.toInt
  | .jsetXJmp _ _ off => some off.toInt
  | .jsetKJmp32 _ _ off => some off.toInt
  | .jsetXJmp32 _ _ off => some off.toInt
  | .jneKJmp _ _ off => some off.toInt
  | .jneXJmp _ _ off => some off.toInt
  | .jneKJmp32 _ _ off => some off.toInt
  | .jneXJmp32 _ _ off => some off.toInt
  | .jsgtKJmp _ _ off => some off.toInt
  | .jsgtXJmp _ _ off => some off.toInt
  | .jsgtKJmp32 _ _ off => some off.toInt
  | .jsgtXJmp32 _ _ off => some off.toInt
  | .jsgeKJmp _ _ off => some off.toInt
  | .jsgeXJmp _ _ off => some off.toInt
  | .jsgeKJmp32 _ _ off => some off.toInt
  | .jsgeXJmp32 _ _ off => some off.toInt
  | .jltKJmp _ _ off => some off.toInt
  | .jltXJmp _ _ off => some off.toInt
  | .jltKJmp32 _ _ off => some off.toInt
  | .jltXJmp32 _ _ off => some off.toInt
  | .jleKJmp _ _ off => some off.toInt
  | .jleXJmp _ _ off => some off.toInt
  | .jleKJmp32 _ _ off => some off.toInt
  | .jleXJmp32 _ _ off => some off.toInt
  | .jsltKJmp _ _ off => some off.toInt
  | .jsltXJmp _ _ off => some off.toInt
  | .jsltKJmp32 _ _ off => some off.toInt
  | .jsltXJmp32 _ _ off => some off.toInt
  | .jsleKJmp _ _ off => some off.toInt
  | .jsleXJmp _ _ off => some off.toInt
  | .jsleKJmp32 _ _ off => some off.toInt
  | .jsleXJmp32 _ _ off => some off.toInt
  | .callKJmpHelper _ => none
  | .callKJmpLocal imm => some imm.toInt
  | .callKJmpBtf _ => none
  | .exitKJmp => none
  | .memBLdx _ _ _ => none
  | .memHLdx _ _ _ => none
  | .memWLdx _ _ _ => none
  | .memDwLdx _ _ _ => none
  | .memBSt _ _ _ => none
  | .memHSt _ _ _ => none
  | .memWSt _ _ _ => none
  | .memDwSt _ _ _ => none
  | .memBStx _ _ _ => none
  | .memHStx _ _ _ => none
  | .memWStx _ _ _ => none
  | .memDwStx _ _ _ => none
  | .memsxBLdx _ _ _ => none
  | .memsxHLdx _ _ _ => none
  | .memsxWLdx _ _ _ => none
  | .atomicWStxAdd _ _ _ => none
  | .atomicWStxAddFetch _ _ _ => none
  | .atomicWStxOr _ _ _ => none
  | .atomicWStxOrFetch _ _ _ => none
  | .atomicWStxAnd _ _ _ => none
  | .atomicWStxAndFetch _ _ _ => none
  | .atomicWStxXor _ _ _ => none
  | .atomicWStxXorFetch _ _ _ => none
  | .atomicWStxXchg _ _ _ => none
  | .atomicWStxCmpxchg _ _ _ => none
  | .atomicDwStxAdd _ _ _ => none
  | .atomicDwStxAddFetch _ _ _ => none
  | .atomicDwStxOr _ _ _ => none
  | .atomicDwStxOrFetch _ _ _ => none
  | .atomicDwStxAnd _ _ _ => none
  | .atomicDwStxAndFetch _ _ _ => none
  | .atomicDwStxXor _ _ _ => none
  | .atomicDwStxXorFetch _ _ _ => none
  | .atomicDwStxXchg _ _ _ => none
  | .atomicDwStxCmpxchg _ _ _ => none
  | .immNext _ => none
  | .immDwLdImm64 _ _ _ => none
  | .immDwLdMapfd _ _ => none
  | .immDwLdMapfdVal _ _ _ => none
  | .immDwLdVaraddr _ _ => none
  | .immDwLdCodeaddr _ _ => none
  | .immDwLdMapidx _ _ => none
  | .immDwLdMapidxVal _ _ _ => none
  | .absWLd _ => none
  | .absHLd _ => none
  | .absBLd _ => none
  | .indWLd _ _ => none
  | .indHLd _ _ => none
  | .indBLd _ _ => none

/-- A slot number at which the program may be entered: a slot of it in instruction position. -/
def isEntry (program : List Slot) (t : Int) : Bool :=
  decide (0 ≤ t) && decide (t < program.length) && !isSecondSlot program t.toNat

/-- What the check asks of an instruction at slot `p`: it is one that executes, its group is supported and is not `packet`, and
its target, where it has one, may be entered. -/
def instrPasses (platform : Platform) (program : List Slot) (p : Nat) (i : Instr) : Bool :=
  match i with
  | .immNext _ => false
  | i =>
    decide (groupOf i ≠ .packet) && supports platform.groups (groupOf i) &&
      match displacement i with
      | none => true
      | some d => isEntry program ((p : Int) + 1 + d)

/-- What the check asks of slot `p`: it is a second slot, or it decodes to an instruction that passes. -/
def slotPasses (platform : Platform) (program : List Slot) (p : Nat) : Bool :=
  isSecondSlot program p ||
    match program[p]? with
    | none => true
    | some slot =>
      match decodeSlots platform.endian slot program[p + 1]? with
      | .error _ => false
      | .ok i => instrPasses platform program p i

/-- The check of a program (70_reset_and_hazards.md R502): every slot passes. -/
def loadCheck (platform : Platform) (program : List Slot) : Bool :=
  (List.range program.length).all fun p => slotPasses platform program p

end Sys2Proof.Machine
end

