-- ==== Sys2Proof/Safety.lean ====
section
/-! DEFINITION. The terms in which claims are stated: what a run of the machine shows, which registers and bytes an instruction
reads and writes (10_state.md R33), and the laws of the spec written as arithmetic on integers, beside the model's own. -/

namespace Sys2Proof.Machine

/-! ### Runs -/

/-- The fault record (10_state.md R52, 60_exceptions.md R461): the state before the faulting instruction, and the fault. The
environment's stores of that step have happened before it (20_memory.md R72). -/
def faultRecord (s : State) : Option (State × Fault) :=
  match step s with
  | .fault f => some (s.interfere, f)
  | _ => none

/-- A run that never faults and is never refused (60_exceptions.md R461). -/
def SafeRun (s : State) : Prop := ∀ n, ∃ t, Host.Core.run Sys2Proof.core n s = .next t

/-! ### What is left unchanged -/

/-- Everything but the registers, `pc` and memory is the same. -/
def SameRest (s t : State) : Prop :=
  t.calls = s.calls ∧ t.status = s.status ∧ t.program = s.program ∧ t.platform = s.platform ∧
    t.interference = s.interference ∧ t.helperActs = s.helperActs ∧ t.stackTops = s.stackTops ∧ t.freeIdx = s.freeIdx

/-- Every register holds what it held. -/
def SameRegs (s t : State) : Prop := ∀ r, t.reg r = s.reg r

/-- Every byte of memory reads as it read. -/
def SameBytes (s t : State) : Prop := ∀ a, byteAt t a = byteAt s a

/-- `t` is `s` after the environment has acted before a step (20_memory.md R72): but for memory, only the first entry of the coming
stores is gone (log 12). -/
def OnlyEnvironmentActed (s t : State) : Prop :=
  SameRegs s t ∧ t.pc = s.pc ∧ t.calls = s.calls ∧ t.status = s.status ∧ t.program = s.program ∧ t.platform = s.platform ∧
    t.interference = s.interference.tail ∧ t.helperActs = s.helperActs ∧ t.stackTops = s.stackTops ∧ t.freeIdx = s.freeIdx

/-- Register `dst` holds `v`, and every other register holds what it held. -/
def WroteReg (s t : State) (dst : Reg) (v : Word) : Prop := t.reg dst = some v ∧ ∀ r, r ≠ dst → t.reg r = s.reg r

/-- The bytes from `addr` up are `bs`, and every byte outside them reads as it read. -/
def StoredBytes (s t : State) (addr : Word) (bs : List Byte) : Prop :=
  (∀ k (h : k < bs.length), byteAt t (addr + BitVec.ofNat 64 k) = bs[k]) ∧
    ∀ a, (∀ k < bs.length, a ≠ addr + BitVec.ofNat 64 k) → byteAt t a = byteAt s a

/-- `t` is `s` with `v` in register `dst` and `pc` at `p`, and nothing else changed. -/
def RegisterResult (s t : State) (dst : Reg) (v : Word) (p : Int) : Prop :=
  WroteReg s t dst v ∧ SameBytes s t ∧ t.pc = p ∧ SameRest s t

/-- `t` is `s` with `pc` at `p`, and nothing else changed. -/
def JumpResult (s t : State) (p : Int) : Prop := SameRegs s t ∧ SameBytes s t ∧ t.pc = p ∧ SameRest s t

/-- `t` is `s` with the bytes `bs` stored at `addr` and `pc` at `p`, and nothing else changed. -/
def StoreResult (s t : State) (addr : Word) (bs : List Byte) (p : Int) : Prop :=
  SameRegs s t ∧ StoredBytes s t addr bs ∧ t.pc = p ∧ SameRest s t

/-- `t` is `s` with the bytes `bs` stored at `addr`, `v` in register `dst` and `pc` at `p`, and nothing else changed. -/
def ExchangeResult (s t : State) (addr : Word) (bs : List Byte) (dst : Reg) (v : Word) (p : Int) : Prop :=
  WroteReg s t dst v ∧ StoredBytes s t addr bs ∧ t.pc = p ∧ SameRest s t

/-! ### Memory, as the rules say it -/

/-- The unsigned number that bytes in storage order denote on a host (20_memory.md R61). -/
def hostValue : Endian → List Byte → Nat
  | .little, bs => bs.foldr (fun b acc => b.toNat + 256 * acc) 0
  | .big, bs => bs.foldl (fun acc b => 256 * acc + b.toNat) 0

/-- The `n` bytes in storage order of an unsigned number on a host (20_memory.md R62). -/
def hostBytes (e : Endian) (n v : Nat) : List Byte :=
  (List.range n).map fun k => BitVec.ofNat 8 (v / 256 ^ (if e = .little then k else n - 1 - k))

/-- The `n` bytes from `addr` up. -/
def bytesAt (s : State) (addr : Word) (n : Nat) : List Byte :=
  (List.range n).map fun k => byteAt s (addr + BitVec.ofNat 64 k)

/-- The permission that an access needs of a region (20_memory.md R66, R70). -/
def Allows (r : Region) : MemKind → Prop
  | .read => r.readable = true
  | .write => r.writable = true
  | .atomic => r.readable = true ∧ r.writable = true
  | .misaligned => False

/-- MemAdmit (20_memory.md R66): all bytes inside one region with the permission, and `addr + n <= 2^64`. -/
def Admitted (p : Platform) (addr : Word) (n : Nat) (k : MemKind) : Prop :=
  addr.toNat + n ≤ 2 ^ 64 ∧
    ∃ r ∈ p.regions, r.base.toNat ≤ addr.toNat ∧ addr.toNat + n ≤ r.base.toNat + r.len ∧ Allows r k

/-- An access that is performed (20_memory.md R65, R66): aligned and admitted, or a misaligned load or store that MISALIGNED =
split performs byte by byte, each byte admitted. -/
def AccessAllowed (p : Platform) (addr : Word) (n : Nat) (k : MemKind) : Prop :=
  (addr.toNat % n = 0 ∧ Admitted p addr n k) ∨
    (addr.toNat % n ≠ 0 ∧ p.misaligned = .split ∧ k ≠ .atomic ∧ addr.toNat + n ≤ 2 ^ 64 ∧
      ∀ j < n, Admitted p (addr + BitVec.ofNat 64 j) 1 k)

/-- A byte that lies in a region marked private (20_memory.md R72). -/
def PrivateByte (p : Platform) (a : Word) : Prop :=
  ∃ r ∈ p.regions, r.shared = false ∧ r.base.toNat ≤ a.toNat ∧ a.toNat < r.base.toNat + r.len

/-- A byte that lies in a region marked shared (20_memory.md R72). -/
def SharedByte (p : Platform) (a : Word) : Prop :=
  ∃ r ∈ p.regions, r.shared = true ∧ r.base.toNat ≤ a.toNat ∧ a.toNat < r.base.toNat + r.len

/-- The stack region of a function (44_call_exit.md R345): a byte of the STACK_SIZE bytes below its frame pointer. -/
def StackByte (p : Platform) (top a : Word) : Prop := a.toNat < top.toNat ∧ top.toNat ≤ a.toNat + p.stackSize

/-- A frame pointer whose stack would be apart from those in use (44_call_exit.md R345): the STACK_SIZE bytes below it exist, and none
of them is in the stack region of an active function. -/
def ApartTop (s : State) (top : Word) : Prop :=
  s.platform.stackSize ≤ top.toNat ∧
    ∀ a, StackByte s.platform top a → ∀ u ∈ s.stackTops, ¬ StackByte s.platform u a

/-- Besides, none of those bytes is in a shared region (20_memory.md R72). -/
def PrivateTop (s : State) (top : Word) : Prop :=
  ApartTop s top ∧ ∀ a, StackByte s.platform top a → ¬ SharedByte s.platform a

/-- A fresh frame pointer (44_call_exit.md R345): besides, its STACK_SIZE bytes lie in a region that the platform supplies, private,
readable and writable. -/
def FreshTop (s : State) (top : Word) : Prop :=
  PrivateTop s top ∧
    ∃ r ∈ s.platform.regions, r.shared = false ∧ r.readable = true ∧ r.writable = true ∧
      r.base.toNat + s.platform.stackSize ≤ top.toNat ∧ top.toNat ≤ r.base.toNat + r.len

/-- No two of the stacks in use have a byte in common (44_call_exit.md R345). -/
def StacksApart (s : State) : Prop :=
  s.stackTops.Pairwise fun u v => ∀ a, StackByte s.platform u a → ¬ StackByte s.platform v a

/-! ### The instructions of a family, named by their operation -/

/-- The thirteen binary arithmetic operations (30_encoding.md R102). -/
inductive ArithCode where
  | add
  | sub
  | mul
  | div
  | sdiv
  | or
  | and
  | lsh
  | rsh
  | mod
  | smod
  | xor
  | arsh
  deriving DecidableEq, Repr

/-- The result of an arithmetic operation on `n`-bit operands, as integer arithmetic (40_alu32.md R140 to R147). -/
def ArithCode.result {n : Nat} (c : ArithCode) (a b : BitVec n) : BitVec n :=
  match c with
  | .add => BitVec.ofNat n (a.toNat + b.toNat)
  | .sub => BitVec.ofInt n ((a.toNat : Int) - b.toNat)
  | .mul => BitVec.ofNat n (a.toNat * b.toNat)
  | .div => if b.toNat = 0 then 0 else BitVec.ofNat n (a.toNat / b.toNat)
  | .sdiv => if b.toInt = 0 then 0 else BitVec.ofInt n (a.toInt.tdiv b.toInt)
  | .or => BitVec.ofNat n (a.toNat ||| b.toNat)
  | .and => BitVec.ofNat n (a.toNat &&& b.toNat)
  | .lsh => BitVec.ofNat n (a.toNat * 2 ^ (b.toNat % n))
  | .rsh => BitVec.ofNat n (a.toNat / 2 ^ (b.toNat % n))
  | .mod => if b.toNat = 0 then a else BitVec.ofNat n (a.toNat - b.toNat * (a.toNat / b.toNat))
  | .smod => if b.toInt = 0 then a else BitVec.ofInt n (a.toInt - b.toInt * a.toInt.tdiv b.toInt)
  | .xor => BitVec.ofNat n (a.toNat ^^^ b.toNat)
  | .arsh => BitVec.ofInt n (a.toInt.fdiv (2 ^ (b.toNat % n)))

/-- MUL, DIV, SDIV, MOD and SMOD, which have conformance groups of their own (00_scope.md R4). -/
def ArithCode.isDivMul : ArithCode → Bool
  | .add => false
  | .sub => false
  | .mul => true
  | .div => true
  | .sdiv => true
  | .or => false
  | .and => false
  | .lsh => false
  | .rsh => false
  | .mod => true
  | .smod => true
  | .xor => false
  | .arsh => false

/-- The K form of the operation in class ALU (30_encoding.md R102). -/
def ArithCode.k32 : ArithCode → Reg → Imm → Instr
  | .add => .addKAlu
  | .sub => .subKAlu
  | .mul => .mulKAlu
  | .div => .divKAlu
  | .sdiv => .sdivKAlu
  | .or => .orKAlu
  | .and => .andKAlu
  | .lsh => .lshKAlu
  | .rsh => .rshKAlu
  | .mod => .modKAlu
  | .smod => .smodKAlu
  | .xor => .xorKAlu
  | .arsh => .arshKAlu

/-- The X form of the operation in class ALU (30_encoding.md R102). -/
def ArithCode.x32 : ArithCode → Reg → Reg → Instr
  | .add => .addXAlu
  | .sub => .subXAlu
  | .mul => .mulXAlu
  | .div => .divXAlu
  | .sdiv => .sdivXAlu
  | .or => .orXAlu
  | .and => .andXAlu
  | .lsh => .lshXAlu
  | .rsh => .rshXAlu
  | .mod => .modXAlu
  | .smod => .smodXAlu
  | .xor => .xorXAlu
  | .arsh => .arshXAlu

/-- The K form of the operation in class ALU64 (30_encoding.md R102). -/
def ArithCode.k64 : ArithCode → Reg → Imm → Instr
  | .add => .addKAlu64
  | .sub => .subKAlu64
  | .mul => .mulKAlu64
  | .div => .divKAlu64
  | .sdiv => .sdivKAlu64
  | .or => .orKAlu64
  | .and => .andKAlu64
  | .lsh => .lshKAlu64
  | .rsh => .rshKAlu64
  | .mod => .modKAlu64
  | .smod => .smodKAlu64
  | .xor => .xorKAlu64
  | .arsh => .arshKAlu64

/-- The X form of the operation in class ALU64 (30_encoding.md R102). -/
def ArithCode.x64 : ArithCode → Reg → Reg → Instr
  | .add => .addXAlu64
  | .sub => .subXAlu64
  | .mul => .mulXAlu64
  | .div => .divXAlu64
  | .sdiv => .sdivXAlu64
  | .or => .orXAlu64
  | .and => .andXAlu64
  | .lsh => .lshXAlu64
  | .rsh => .rshXAlu64
  | .mod => .modXAlu64
  | .smod => .smodXAlu64
  | .xor => .xorXAlu64
  | .arsh => .arshXAlu64

/-- The group of the operation in class ALU (00_scope.md R4). -/
def ArithCode.group32 (c : ArithCode) : ConfGroup := if c.isDivMul then .divmul32 else .base32

/-- The group of the operation in class ALU64 (00_scope.md R4). -/
def ArithCode.group64 (c : ArithCode) : ConfGroup := if c.isDivMul then .divmul64 else .base64

/-- The eleven conditions (43_jump.md R285). -/
inductive CondCode where
  | eq
  | gt
  | ge
  | set
  | ne
  | sgt
  | sge
  | lt
  | le
  | slt
  | sle
  deriving DecidableEq, Repr

/-- When a conditional jump is taken (43_jump.md R285). -/
def CondCode.Holds {n : Nat} (c : CondCode) (a b : BitVec n) : Prop :=
  match c with
  | .eq => a = b
  | .gt => a.toNat > b.toNat
  | .ge => a.toNat ≥ b.toNat
  | .set => ∃ k < n, a.getLsbD k = true ∧ b.getLsbD k = true
  | .ne => a ≠ b
  | .sgt => a.toInt > b.toInt
  | .sge => a.toInt ≥ b.toInt
  | .lt => a.toNat < b.toNat
  | .le => a.toNat ≤ b.toNat
  | .slt => a.toInt < b.toInt
  | .sle => a.toInt ≤ b.toInt

/-- The K form of the condition in class JMP (30_encoding.md R103). -/
def CondCode.k64 : CondCode → Reg → Imm → Off → Instr
  | .eq => .jeqKJmp
  | .gt => .jgtKJmp
  | .ge => .jgeKJmp
  | .set => .jsetKJmp
  | .ne => .jneKJmp
  | .sgt => .jsgtKJmp
  | .sge => .jsgeKJmp
  | .lt => .jltKJmp
  | .le => .jleKJmp
  | .slt => .jsltKJmp
  | .sle => .jsleKJmp

/-- The X form of the condition in class JMP (30_encoding.md R103). -/
def CondCode.x64 : CondCode → Reg → Reg → Off → Instr
  | .eq => .jeqXJmp
  | .gt => .jgtXJmp
  | .ge => .jgeXJmp
  | .set => .jsetXJmp
  | .ne => .jneXJmp
  | .sgt => .jsgtXJmp
  | .sge => .jsgeXJmp
  | .lt => .jltXJmp
  | .le => .jleXJmp
  | .slt => .jsltXJmp
  | .sle => .jsleXJmp

/-- The K form of the condition in class JMP32 (30_encoding.md R103). -/
def CondCode.k32 : CondCode → Reg → Imm → Off → Instr
  | .eq => .jeqKJmp32
  | .gt => .jgtKJmp32
  | .ge => .jgeKJmp32
  | .set => .jsetKJmp32
  | .ne => .jneKJmp32
  | .sgt => .jsgtKJmp32
  | .sge => .jsgeKJmp32
  | .lt => .jltKJmp32
  | .le => .jleKJmp32
  | .slt => .jsltKJmp32
  | .sle => .jsleKJmp32

/-- The X form of the condition in class JMP32 (30_encoding.md R103). -/
def CondCode.x32 : CondCode → Reg → Reg → Off → Instr
  | .eq => .jeqXJmp32
  | .gt => .jgtXJmp32
  | .ge => .jgeXJmp32
  | .set => .jsetXJmp32
  | .ne => .jneXJmp32
  | .sgt => .jsgtXJmp32
  | .sge => .jsgeXJmp32
  | .lt => .jltXJmp32
  | .le => .jleXJmp32
  | .slt => .jsltXJmp32
  | .sle => .jsleXJmp32

/-- The four simple atomic operations (46_atomic.md R390). -/
inductive AtomicCode where
  | add
  | or
  | and
  | xor
  deriving DecidableEq, Repr

/-- The new value of a simple atomic operation, before it is cut to the size (46_atomic.md R391, R392). -/
def AtomicCode.new : AtomicCode → Nat → Nat → Nat
  | .add, old, v => old + v
  | .or, old, v => old ||| v
  | .and, old, v => old &&& v
  | .xor, old, v => old ^^^ v

/-- The two sizes of an atomic (46_atomic.md R390). -/
inductive AtomicSize where
  | w
  | dw
  deriving DecidableEq, Repr

/-- The bytes of an atomic (46_atomic.md R390). -/
def AtomicSize.bytes : AtomicSize → Nat
  | .w => 4
  | .dw => 8

/-- The group of an atomic (46_atomic.md R390). -/
def AtomicSize.group : AtomicSize → ConfGroup
  | .w => .atomic32
  | .dw => .atomic64

/-- The simple atomic operation without FETCH (46_atomic.md R390). -/
def AtomicCode.plain : AtomicCode → AtomicSize → Reg → Reg → Off → Instr
  | .add, .w => .atomicWStxAdd
  | .add, .dw => .atomicDwStxAdd
  | .or, .w => .atomicWStxOr
  | .or, .dw => .atomicDwStxOr
  | .and, .w => .atomicWStxAnd
  | .and, .dw => .atomicDwStxAnd
  | .xor, .w => .atomicWStxXor
  | .xor, .dw => .atomicDwStxXor

/-- The simple atomic operation with FETCH (46_atomic.md R390). -/
def AtomicCode.fetching : AtomicCode → AtomicSize → Reg → Reg → Off → Instr
  | .add, .w => .atomicWStxAddFetch
  | .add, .dw => .atomicDwStxAddFetch
  | .or, .w => .atomicWStxOrFetch
  | .or, .dw => .atomicDwStxOrFetch
  | .and, .w => .atomicWStxAndFetch
  | .and, .dw => .atomicDwStxAndFetch
  | .xor, .w => .atomicWStxXorFetch
  | .xor, .dw => .atomicDwStxXorFetch

/-- XCHG (46_atomic.md R402, R412). -/
def AtomicSize.xchg : AtomicSize → Reg → Reg → Off → Instr
  | .w => .atomicWStxXchg
  | .dw => .atomicDwStxXchg

/-- CMPXCHG (46_atomic.md R403, R413). -/
def AtomicSize.cmpxchg : AtomicSize → Reg → Reg → Off → Instr
  | .w => .atomicWStxCmpxchg
  | .dw => .atomicDwStxCmpxchg

/-- The zero-extending load of a size (45_load_store.md R362 to R365). -/
def Size.load : Size → Reg → Reg → Off → Instr
  | .b => .memBLdx
  | .h => .memHLdx
  | .w => .memWLdx
  | .dw => .memDwLdx

/-- The store of an immediate (45_load_store.md R366 to R369). -/
def Size.storeImm : Size → Reg → Off → Imm → Instr
  | .b => .memBSt
  | .h => .memHSt
  | .w => .memWSt
  | .dw => .memDwSt

/-- The store of a register (45_load_store.md R370 to R373). -/
def Size.storeReg : Size → Reg → Reg → Off → Instr
  | .b => .memBStx
  | .h => .memHStx
  | .w => .memWStx
  | .dw => .memDwStx

/-- The group of a load or store of a size (45_load_store.md R361). -/
def Size.group : Size → ConfGroup
  | .dw => .base64
  | _ => .base32

/-! ### What each instruction reads and writes (10_state.md R33) -/

/-- The registers that an instruction reads, in the order in which their absence is reported (60_exceptions.md R474). What a
helper reads is the platform's. EXIT reads `x[0]` only where it ends the run, which `returnOrEnd` says. -/
def readsOf : Instr → List Reg
  | .addKAlu dst _ => [dst]
  | .addXAlu dst src => [dst, src]
  | .subKAlu dst _ => [dst]
  | .subXAlu dst src => [dst, src]
  | .mulKAlu dst _ => [dst]
  | .mulXAlu dst src => [dst, src]
  | .divKAlu dst _ => [dst]
  | .divXAlu dst src => [dst, src]
  | .sdivKAlu dst _ => [dst]
  | .sdivXAlu dst src => [dst, src]
  | .orKAlu dst _ => [dst]
  | .orXAlu dst src => [dst, src]
  | .andKAlu dst _ => [dst]
  | .andXAlu dst src => [dst, src]
  | .lshKAlu dst _ => [dst]
  | .lshXAlu dst src => [dst, src]
  | .rshKAlu dst _ => [dst]
  | .rshXAlu dst src => [dst, src]
  | .negKAlu dst => [dst]
  | .modKAlu dst _ => [dst]
  | .modXAlu dst src => [dst, src]
  | .smodKAlu dst _ => [dst]
  | .smodXAlu dst src => [dst, src]
  | .xorKAlu dst _ => [dst]
  | .xorXAlu dst src => [dst, src]
  | .movKAlu _ _ => []
  | .movXAlu _ src => [src]
  | .movsx8XAlu _ src => [src]
  | .movsx16XAlu _ src => [src]
  | .arshKAlu dst _ => [dst]
  | .arshXAlu dst src => [dst, src]
  | .addKAlu64 dst _ => [dst]
  | .addXAlu64 dst src => [dst, src]
  | .subKAlu64 dst _ => [dst]
  | .subXAlu64 dst src => [dst, src]
  | .mulKAlu64 dst _ => [dst]
  | .mulXAlu64 dst src => [dst, src]
  | .divKAlu64 dst _ => [dst]
  | .divXAlu64 dst src => [dst, src]
  | .sdivKAlu64 dst _ => [dst]
  | .sdivXAlu64 dst src => [dst, src]
  | .orKAlu64 dst _ => [dst]
  | .orXAlu64 dst src => [dst, src]
  | .andKAlu64 dst _ => [dst]
  | .andXAlu64 dst src => [dst, src]
  | .lshKAlu64 dst _ => [dst]
  | .lshXAlu64 dst src => [dst, src]
  | .rshKAlu64 dst _ => [dst]
  | .rshXAlu64 dst src => [dst, src]
  | .negKAlu64 dst => [dst]
  | .modKAlu64 dst _ => [dst]
  | .modXAlu64 dst src => [dst, src]
  | .smodKAlu64 dst _ => [dst]
  | .smodXAlu64 dst src => [dst, src]
  | .xorKAlu64 dst _ => [dst]
  | .xorXAlu64 dst src => [dst, src]
  | .movKAlu64 _ _ => []
  | .movXAlu64 _ src => [src]
  | .movsx8XAlu64 _ src => [src]
  | .movsx16XAlu64 _ src => [src]
  | .movsx32XAlu64 _ src => [src]
  | .arshKAlu64 dst _ => [dst]
  | .arshXAlu64 dst src => [dst, src]
  | .endLeAlu16 dst => [dst]
  | .endLeAlu32 dst => [dst]
  | .endLeAlu64 dst => [dst]
  | .endBeAlu16 dst => [dst]
  | .endBeAlu32 dst => [dst]
  | .endBeAlu64 dst => [dst]
  | .endToAlu6416 dst => [dst]
  | .endToAlu6432 dst => [dst]
  | .endToAlu6464 dst => [dst]
  | .jaKJmp _ => []
  | .jaKJmp32 _ => []
  | .jeqKJmp dst _ _ => [dst]
  | .jeqXJmp dst src _ => [dst, src]
  | .jeqKJmp32 dst _ _ => [dst]
  | .jeqXJmp32 dst src _ => [dst, src]
  | .jgtKJmp dst _ _ => [dst]
  | .jgtXJmp dst src _ => [dst, src]
  | .jgtKJmp32 dst _ _ => [dst]
  | .jgtXJmp32 dst src _ => [dst, src]
  | .jgeKJmp dst _ _ => [dst]
  | .jgeXJmp dst src _ => [dst, src]
  | .jgeKJmp32 dst _ _ => [dst]
  | .jgeXJmp32 dst src _ => [dst, src]
  | .jsetKJmp dst _ _ => [dst]
  | .jsetXJmp dst src _ => [dst, src]
  | .jsetKJmp32 dst _ _ => [dst]
  | .jsetXJmp32 dst src _ => [dst, src]
  | .jneKJmp dst _ _ => [dst]
  | .jneXJmp dst src _ => [dst, src]
  | .jneKJmp32 dst _ _ => [dst]
  | .jneXJmp32 dst src _ => [dst, src]
  | .jsgtKJmp dst _ _ => [dst]
  | .jsgtXJmp dst src _ => [dst, src]
  | .jsgtKJmp32 dst _ _ => [dst]
  | .jsgtXJmp32 dst src _ => [dst, src]
  | .jsgeKJmp dst _ _ => [dst]
  | .jsgeXJmp dst src _ => [dst, src]
  | .jsgeKJmp32 dst _ _ => [dst]
  | .jsgeXJmp32 dst src _ => [dst, src]
  | .jltKJmp dst _ _ => [dst]
  | .jltXJmp dst src _ => [dst, src]
  | .jltKJmp32 dst _ _ => [dst]
  | .jltXJmp32 dst src _ => [dst, src]
  | .jleKJmp dst _ _ => [dst]
  | .jleXJmp dst src _ => [dst, src]
  | .jleKJmp32 dst _ _ => [dst]
  | .jleXJmp32 dst src _ => [dst, src]
  | .jsltKJmp dst _ _ => [dst]
  | .jsltXJmp dst src _ => [dst, src]
  | .jsltKJmp32 dst _ _ => [dst]
  | .jsltXJmp32 dst src _ => [dst, src]
  | .jsleKJmp dst _ _ => [dst]
  | .jsleXJmp dst src _ => [dst, src]
  | .jsleKJmp32 dst _ _ => [dst]
  | .jsleXJmp32 dst src _ => [dst, src]
  | .callKJmpHelper _ => []
  | .callKJmpLocal _ => []
  | .callKJmpBtf _ => []
  | .exitKJmp => []
  | .memBLdx _ src _ => [src]
  | .memHLdx _ src _ => [src]
  | .memWLdx _ src _ => [src]
  | .memDwLdx _ src _ => [src]
  | .memBSt dst _ _ => [dst]
  | .memHSt dst _ _ => [dst]
  | .memWSt dst _ _ => [dst]
  | .memDwSt dst _ _ => [dst]
  | .memBStx dst src _ => [dst, src]
  | .memHStx dst src _ => [dst, src]
  | .memWStx dst src _ => [dst, src]
  | .memDwStx dst src _ => [dst, src]
  | .memsxBLdx _ src _ => [src]
  | .memsxHLdx _ src _ => [src]
  | .memsxWLdx _ src _ => [src]
  | .atomicWStxAdd dst src _ => [dst, src]
  | .atomicWStxAddFetch dst src _ => [dst, src]
  | .atomicWStxOr dst src _ => [dst, src]
  | .atomicWStxOrFetch dst src _ => [dst, src]
  | .atomicWStxAnd dst src _ => [dst, src]
  | .atomicWStxAndFetch dst src _ => [dst, src]
  | .atomicWStxXor dst src _ => [dst, src]
  | .atomicWStxXorFetch dst src _ => [dst, src]
  | .atomicWStxXchg dst src _ => [dst, src]
  | .atomicWStxCmpxchg dst src _ => [dst, src, 0]
  | .atomicDwStxAdd dst src _ => [dst, src]
  | .atomicDwStxAddFetch dst src _ => [dst, src]
  | .atomicDwStxOr dst src _ => [dst, src]
  | .atomicDwStxOrFetch dst src _ => [dst, src]
  | .atomicDwStxAnd dst src _ => [dst, src]
  | .atomicDwStxAndFetch dst src _ => [dst, src]
  | .atomicDwStxXor dst src _ => [dst, src]
  | .atomicDwStxXorFetch dst src _ => [dst, src]
  | .atomicDwStxXchg dst src _ => [dst, src]
  | .atomicDwStxCmpxchg dst src _ => [dst, src, 0]
  | .immNext _ => []
  | .immDwLdImm64 _ _ _ => []
  | .immDwLdMapfd _ _ => []
  | .immDwLdMapfdVal _ _ _ => []
  | .immDwLdVaraddr _ _ => []
  | .immDwLdCodeaddr _ _ => []
  | .immDwLdMapidx _ _ => []
  | .immDwLdMapidxVal _ _ _ => []
  | .absWLd _ => []
  | .absHLd _ => []
  | .absBLd _ => []
  | .indWLd _ _ => []
  | .indHLd _ _ => []
  | .indBLd _ _ => []

/-- The registers that an instruction may write, with the register effects of calls under CallConv = linux
(10_state.md R33, 44_call_exit.md R344, R345); a helper may leave every register without a value. -/
def writesOf : Instr → List Reg
  | .addKAlu dst _ => [dst]
  | .addXAlu dst _ => [dst]
  | .subKAlu dst _ => [dst]
  | .subXAlu dst _ => [dst]
  | .mulKAlu dst _ => [dst]
  | .mulXAlu dst _ => [dst]
  | .divKAlu dst _ => [dst]
  | .divXAlu dst _ => [dst]
  | .sdivKAlu dst _ => [dst]
  | .sdivXAlu dst _ => [dst]
  | .orKAlu dst _ => [dst]
  | .orXAlu dst _ => [dst]
  | .andKAlu dst _ => [dst]
  | .andXAlu dst _ => [dst]
  | .lshKAlu dst _ => [dst]
  | .lshXAlu dst _ => [dst]
  | .rshKAlu dst _ => [dst]
  | .rshXAlu dst _ => [dst]
  | .negKAlu dst => [dst]
  | .modKAlu dst _ => [dst]
  | .modXAlu dst _ => [dst]
  | .smodKAlu dst _ => [dst]
  | .smodXAlu dst _ => [dst]
  | .xorKAlu dst _ => [dst]
  | .xorXAlu dst _ => [dst]
  | .movKAlu dst _ => [dst]
  | .movXAlu dst _ => [dst]
  | .movsx8XAlu dst _ => [dst]
  | .movsx16XAlu dst _ => [dst]
  | .arshKAlu dst _ => [dst]
  | .arshXAlu dst _ => [dst]
  | .addKAlu64 dst _ => [dst]
  | .addXAlu64 dst _ => [dst]
  | .subKAlu64 dst _ => [dst]
  | .subXAlu64 dst _ => [dst]
  | .mulKAlu64 dst _ => [dst]
  | .mulXAlu64 dst _ => [dst]
  | .divKAlu64 dst _ => [dst]
  | .divXAlu64 dst _ => [dst]
  | .sdivKAlu64 dst _ => [dst]
  | .sdivXAlu64 dst _ => [dst]
  | .orKAlu64 dst _ => [dst]
  | .orXAlu64 dst _ => [dst]
  | .andKAlu64 dst _ => [dst]
  | .andXAlu64 dst _ => [dst]
  | .lshKAlu64 dst _ => [dst]
  | .lshXAlu64 dst _ => [dst]
  | .rshKAlu64 dst _ => [dst]
  | .rshXAlu64 dst _ => [dst]
  | .negKAlu64 dst => [dst]
  | .modKAlu64 dst _ => [dst]
  | .modXAlu64 dst _ => [dst]
  | .smodKAlu64 dst _ => [dst]
  | .smodXAlu64 dst _ => [dst]
  | .xorKAlu64 dst _ => [dst]
  | .xorXAlu64 dst _ => [dst]
  | .movKAlu64 dst _ => [dst]
  | .movXAlu64 dst _ => [dst]
  | .movsx8XAlu64 dst _ => [dst]
  | .movsx16XAlu64 dst _ => [dst]
  | .movsx32XAlu64 dst _ => [dst]
  | .arshKAlu64 dst _ => [dst]
  | .arshXAlu64 dst _ => [dst]
  | .endLeAlu16 dst => [dst]
  | .endLeAlu32 dst => [dst]
  | .endLeAlu64 dst => [dst]
  | .endBeAlu16 dst => [dst]
  | .endBeAlu32 dst => [dst]
  | .endBeAlu64 dst => [dst]
  | .endToAlu6416 dst => [dst]
  | .endToAlu6432 dst => [dst]
  | .endToAlu6464 dst => [dst]
  | .jaKJmp _ => []
  | .jaKJmp32 _ => []
  | .jeqKJmp _ _ _ => []
  | .jeqXJmp _ _ _ => []
  | .jeqKJmp32 _ _ _ => []
  | .jeqXJmp32 _ _ _ => []
  | .jgtKJmp _ _ _ => []
  | .jgtXJmp _ _ _ => []
  | .jgtKJmp32 _ _ _ => []
  | .jgtXJmp32 _ _ _ => []
  | .jgeKJmp _ _ _ => []
  | .jgeXJmp _ _ _ => []
  | .jgeKJmp32 _ _ _ => []
  | .jgeXJmp32 _ _ _ => []
  | .jsetKJmp _ _ _ => []
  | .jsetXJmp _ _ _ => []
  | .jsetKJmp32 _ _ _ => []
  | .jsetXJmp32 _ _ _ => []
  | .jneKJmp _ _ _ => []
  | .jneXJmp _ _ _ => []
  | .jneKJmp32 _ _ _ => []
  | .jneXJmp32 _ _ _ => []
  | .jsgtKJmp _ _ _ => []
  | .jsgtXJmp _ _ _ => []
  | .jsgtKJmp32 _ _ _ => []
  | .jsgtXJmp32 _ _ _ => []
  | .jsgeKJmp _ _ _ => []
  | .jsgeXJmp _ _ _ => []
  | .jsgeKJmp32 _ _ _ => []
  | .jsgeXJmp32 _ _ _ => []
  | .jltKJmp _ _ _ => []
  | .jltXJmp _ _ _ => []
  | .jltKJmp32 _ _ _ => []
  | .jltXJmp32 _ _ _ => []
  | .jleKJmp _ _ _ => []
  | .jleXJmp _ _ _ => []
  | .jleKJmp32 _ _ _ => []
  | .jleXJmp32 _ _ _ => []
  | .jsltKJmp _ _ _ => []
  | .jsltXJmp _ _ _ => []
  | .jsltKJmp32 _ _ _ => []
  | .jsltXJmp32 _ _ _ => []
  | .jsleKJmp _ _ _ => []
  | .jsleXJmp _ _ _ => []
  | .jsleKJmp32 _ _ _ => []
  | .jsleXJmp32 _ _ _ => []
  | .callKJmpHelper _ => [0, 1, 2, 3, 4, 5, 6, 7, 8, 9, 10]
  | .callKJmpLocal _ => [6, 7, 8, 9, 10]
  | .callKJmpBtf _ => [0, 1, 2, 3, 4, 5, 6, 7, 8, 9, 10]
  | .exitKJmp => [1, 2, 3, 4, 5, 6, 7, 8, 9, 10]
  | .memBLdx dst _ _ => [dst]
  | .memHLdx dst _ _ => [dst]
  | .memWLdx dst _ _ => [dst]
  | .memDwLdx dst _ _ => [dst]
  | .memBSt _ _ _ => []
  | .memHSt _ _ _ => []
  | .memWSt _ _ _ => []
  | .memDwSt _ _ _ => []
  | .memBStx _ _ _ => []
  | .memHStx _ _ _ => []
  | .memWStx _ _ _ => []
  | .memDwStx _ _ _ => []
  | .memsxBLdx dst _ _ => [dst]
  | .memsxHLdx dst _ _ => [dst]
  | .memsxWLdx dst _ _ => [dst]
  | .atomicWStxAdd _ _ _ => []
  | .atomicWStxAddFetch _ src _ => [src]
  | .atomicWStxOr _ _ _ => []
  | .atomicWStxOrFetch _ src _ => [src]
  | .atomicWStxAnd _ _ _ => []
  | .atomicWStxAndFetch _ src _ => [src]
  | .atomicWStxXor _ _ _ => []
  | .atomicWStxXorFetch _ src _ => [src]
  | .atomicWStxXchg _ src _ => [src]
  | .atomicWStxCmpxchg _ _ _ => [0]
  | .atomicDwStxAdd _ _ _ => []
  | .atomicDwStxAddFetch _ src _ => [src]
  | .atomicDwStxOr _ _ _ => []
  | .atomicDwStxOrFetch _ src _ => [src]
  | .atomicDwStxAnd _ _ _ => []
  | .atomicDwStxAndFetch _ src _ => [src]
  | .atomicDwStxXor _ _ _ => []
  | .atomicDwStxXorFetch _ src _ => [src]
  | .atomicDwStxXchg _ src _ => [src]
  | .atomicDwStxCmpxchg _ _ _ => [0]
  | .immNext _ => []
  | .immDwLdImm64 dst _ _ => [dst]
  | .immDwLdMapfd dst _ => [dst]
  | .immDwLdMapfdVal dst _ _ => [dst]
  | .immDwLdVaraddr dst _ => [dst]
  | .immDwLdCodeaddr dst _ => [dst]
  | .immDwLdMapidx dst _ => [dst]
  | .immDwLdMapidxVal dst _ _ => [dst]
  | .absWLd _ => []
  | .absHLd _ => []
  | .absBLd _ => []
  | .indWLd _ _ => []
  | .indHLd _ _ => []
  | .indBLd _ _ => []

/-- The memory access of an instruction: base register, offset, size and kind (45_load_store.md R360, 46_atomic.md R391). -/
def accessOf : Instr → Option (Reg × Off × Size × MemKind)
  | .addKAlu _ _ => none
  | .addXAlu _ _ => none
  | .subKAlu _ _ => none
  | .subXAlu _ _ => none
  | .mulKAlu _ _ => none
  | .mulXAlu _ _ => none
  | .divKAlu _ _ => none
  | .divXAlu _ _ => none
  | .sdivKAlu _ _ => none
  | .sdivXAlu _ _ => none
  | .orKAlu _ _ => none
  | .orXAlu _ _ => none
  | .andKAlu _ _ => none
  | .andXAlu _ _ => none
  | .lshKAlu _ _ => none
  | .lshXAlu _ _ => none
  | .rshKAlu _ _ => none
  | .rshXAlu _ _ => none
  | .negKAlu _ => none
  | .modKAlu _ _ => none
  | .modXAlu _ _ => none
  | .smodKAlu _ _ => none
  | .smodXAlu _ _ => none
  | .xorKAlu _ _ => none
  | .xorXAlu _ _ => none
  | .movKAlu _ _ => none
  | .movXAlu _ _ => none
  | .movsx8XAlu _ _ => none
  | .movsx16XAlu _ _ => none
  | .arshKAlu _ _ => none
  | .arshXAlu _ _ => none
  | .addKAlu64 _ _ => none
  | .addXAlu64 _ _ => none
  | .subKAlu64 _ _ => none
  | .subXAlu64 _ _ => none
  | .mulKAlu64 _ _ => none
  | .mulXAlu64 _ _ => none
  | .divKAlu64 _ _ => none
  | .divXAlu64 _ _ => none
  | .sdivKAlu64 _ _ => none
  | .sdivXAlu64 _ _ => none
  | .orKAlu64 _ _ => none
  | .orXAlu64 _ _ => none
  | .andKAlu64 _ _ => none
  | .andXAlu64 _ _ => none
  | .lshKAlu64 _ _ => none
  | .lshXAlu64 _ _ => none
  | .rshKAlu64 _ _ => none
  | .rshXAlu64 _ _ => none
  | .negKAlu64 _ => none
  | .modKAlu64 _ _ => none
  | .modXAlu64 _ _ => none
  | .smodKAlu64 _ _ => none
  | .smodXAlu64 _ _ => none
  | .xorKAlu64 _ _ => none
  | .xorXAlu64 _ _ => none
  | .movKAlu64 _ _ => none
  | .movXAlu64 _ _ => none
  | .movsx8XAlu64 _ _ => none
  | .movsx16XAlu64 _ _ => none
  | .movsx32XAlu64 _ _ => none
  | .arshKAlu64 _ _ => none
  | .arshXAlu64 _ _ => none
  | .endLeAlu16 _ => none
  | .endLeAlu32 _ => none
  | .endLeAlu64 _ => none
  | .endBeAlu16 _ => none
  | .endBeAlu32 _ => none
  | .endBeAlu64 _ => none
  | .endToAlu6416 _ => none
  | .endToAlu6432 _ => none
  | .endToAlu6464 _ => none
  | .jaKJmp _ => none
  | .jaKJmp32 _ => none
  | .jeqKJmp _ _ _ => none
  | .jeqXJmp _ _ _ => none
  | .jeqKJmp32 _ _ _ => none
  | .jeqXJmp32 _ _ _ => none
  | .jgtKJmp _ _ _ => none
  | .jgtXJmp _ _ _ => none
  | .jgtKJmp32 _ _ _ => none
  | .jgtXJmp32 _ _ _ => none
  | .jgeKJmp _ _ _ => none
  | .jgeXJmp _ _ _ => none
  | .jgeKJmp32 _ _ _ => none
  | .jgeXJmp32 _ _ _ => none
  | .jsetKJmp _ _ _ => none
  | .jsetXJmp _ _ _ => none
  | .jsetKJmp32 _ _ _ => none
  | .jsetXJmp32 _ _ _ => none
  | .jneKJmp _ _ _ => none
  | .jneXJmp _ _ _ => none
  | .jneKJmp32 _ _ _ => none
  | .jneXJmp32 _ _ _ => none
  | .jsgtKJmp _ _ _ => none
  | .jsgtXJmp _ _ _ => none
  | .jsgtKJmp32 _ _ _ => none
  | .jsgtXJmp32 _ _ _ => none
  | .jsgeKJmp _ _ _ => none
  | .jsgeXJmp _ _ _ => none
  | .jsgeKJmp32 _ _ _ => none
  | .jsgeXJmp32 _ _ _ => none
  | .jltKJmp _ _ _ => none
  | .jltXJmp _ _ _ => none
  | .jltKJmp32 _ _ _ => none
  | .jltXJmp32 _ _ _ => none
  | .jleKJmp _ _ _ => none
  | .jleXJmp _ _ _ => none
  | .jleKJmp32 _ _ _ => none
  | .jleXJmp32 _ _ _ => none
  | .jsltKJmp _ _ _ => none
  | .jsltXJmp _ _ _ => none
  | .jsltKJmp32 _ _ _ => none
  | .jsltXJmp32 _ _ _ => none
  | .jsleKJmp _ _ _ => none
  | .jsleXJmp _ _ _ => none
  | .jsleKJmp32 _ _ _ => none
  | .jsleXJmp32 _ _ _ => none
  | .callKJmpHelper _ => none
  | .callKJmpLocal _ => none
  | .callKJmpBtf _ => none
  | .exitKJmp => none
  | .memBLdx _ src off => some (src, off, .b, .read)
  | .memHLdx _ src off => some (src, off, .h, .read)
  | .memWLdx _ src off => some (src, off, .w, .read)
  | .memDwLdx _ src off => some (src, off, .dw, .read)
  | .memBSt dst off _ => some (dst, off, .b, .write)
  | .memHSt dst off _ => some (dst, off, .h, .write)
  | .memWSt dst off _ => some (dst, off, .w, .write)
  | .memDwSt dst off _ => some (dst, off, .dw, .write)
  | .memBStx dst _ off => some (dst, off, .b, .write)
  | .memHStx dst _ off => some (dst, off, .h, .write)
  | .memWStx dst _ off => some (dst, off, .w, .write)
  | .memDwStx dst _ off => some (dst, off, .dw, .write)
  | .memsxBLdx _ src off => some (src, off, .b, .read)
  | .memsxHLdx _ src off => some (src, off, .h, .read)
  | .memsxWLdx _ src off => some (src, off, .w, .read)
  | .atomicWStxAdd dst _ off => some (dst, off, .w, .atomic)
  | .atomicWStxAddFetch dst _ off => some (dst, off, .w, .atomic)
  | .atomicWStxOr dst _ off => some (dst, off, .w, .atomic)
  | .atomicWStxOrFetch dst _ off => some (dst, off, .w, .atomic)
  | .atomicWStxAnd dst _ off => some (dst, off, .w, .atomic)
  | .atomicWStxAndFetch dst _ off => some (dst, off, .w, .atomic)
  | .atomicWStxXor dst _ off => some (dst, off, .w, .atomic)
  | .atomicWStxXorFetch dst _ off => some (dst, off, .w, .atomic)
  | .atomicWStxXchg dst _ off => some (dst, off, .w, .atomic)
  | .atomicWStxCmpxchg dst _ off => some (dst, off, .w, .atomic)
  | .atomicDwStxAdd dst _ off => some (dst, off, .dw, .atomic)
  | .atomicDwStxAddFetch dst _ off => some (dst, off, .dw, .atomic)
  | .atomicDwStxOr dst _ off => some (dst, off, .dw, .atomic)
  | .atomicDwStxOrFetch dst _ off => some (dst, off, .dw, .atomic)
  | .atomicDwStxAnd dst _ off => some (dst, off, .dw, .atomic)
  | .atomicDwStxAndFetch dst _ off => some (dst, off, .dw, .atomic)
  | .atomicDwStxXor dst _ off => some (dst, off, .dw, .atomic)
  | .atomicDwStxXorFetch dst _ off => some (dst, off, .dw, .atomic)
  | .atomicDwStxXchg dst _ off => some (dst, off, .dw, .atomic)
  | .atomicDwStxCmpxchg dst _ off => some (dst, off, .dw, .atomic)
  | .immNext _ => none
  | .immDwLdImm64 _ _ _ => none
  | .immDwLdMapfd _ _ => none
  | .immDwLdMapfdVal _ _ _ => none
  | .immDwLdVaraddr _ _ => none
  | .immDwLdCodeaddr _ _ => none
  | .immDwLdMapidx _ _ => none
  | .immDwLdMapidxVal _ _ _ => none
  | .absWLd _ => none
  | .absHLd _ => none
  | .absBLd _ => none
  | .indWLd _ _ => none
  | .indHLd _ _ => none
  | .indBLd _ _ => none

/-- A byte that an instruction stores to: one of its access's bytes, at the address that its meaning computes, where the access
is no load. -/
def StoresTo (i : Instr) (s : State) (a : Word) : Prop :=
  ∃ r off size kind base k, accessOf i = some (r, off, size, kind) ∧ kind ≠ .read ∧ s.reg r = some base ∧ k < size.bytes ∧
    a = effectiveAddress base off + BitVec.ofNat 64 k

/-- The two helper calls. -/
def isHelperCall : Instr → Bool
  | .callKJmpHelper _ => true
  | .callKJmpBtf _ => true
  | _ => false

/-- The slots that an instruction occupies (10_state.md R41): two where it is a 64-bit immediate, else one. -/
def slotsOf (i : Instr) : Int := if (encodeFields i).2.isSome then 2 else 1

/-- The opcode bytes that are assigned in instruction position (30_encoding.md R102 to R107, R110): 0x00, of the second slot of a wide
instruction, is not among them. -/
def assignedOpcodes : List Byte :=
  [
    0x04, 0x05, 0x06, 0x07, 0x0c, 0x0f, 0x14, 0x15, 0x16, 0x17, 0x18, 0x1c, 0x1d, 0x1e, 0x1f,
    0x20, 0x24, 0x25, 0x26, 0x27, 0x28, 0x2c, 0x2d, 0x2e, 0x2f, 0x30, 0x34, 0x35, 0x36, 0x37, 0x3c,
    0x3d, 0x3e, 0x3f, 0x40, 0x44, 0x45, 0x46, 0x47, 0x48, 0x4c, 0x4d, 0x4e, 0x4f, 0x50, 0x54, 0x55,
    0x56, 0x57, 0x5c, 0x5d, 0x5e, 0x5f, 0x61, 0x62, 0x63, 0x64, 0x65, 0x66, 0x67, 0x69, 0x6a, 0x6b,
    0x6c, 0x6d, 0x6e, 0x6f, 0x71, 0x72, 0x73, 0x74, 0x75, 0x76, 0x77, 0x79, 0x7a, 0x7b, 0x7c, 0x7d,
    0x7e, 0x7f, 0x81, 0x84, 0x85, 0x87, 0x89, 0x91, 0x94, 0x95, 0x97, 0x9c, 0x9f, 0xa4, 0xa5, 0xa6,
    0xa7, 0xac, 0xad, 0xae, 0xaf, 0xb4, 0xb5, 0xb6, 0xb7, 0xbc, 0xbd, 0xbe, 0xbf, 0xc3, 0xc4, 0xc5,
    0xc6, 0xc7, 0xcc, 0xcd, 0xce, 0xcf, 0xd4, 0xd5, 0xd6, 0xd7, 0xdb, 0xdc, 0xdd, 0xde]

/-! ### The platform's tables -/

/-- An address function gives `a` for `k` (00_scope.md R10): the first entry for `k` says so, or none is listed, the table is open,
and `a` is the free value. -/
def TableGives {κ : Type} (t : Table κ) (free : κ → Word) (k : κ) (a : Word) : Prop :=
  (∃ before after, t.entries = before ++ (k, a) :: after ∧ ∀ e ∈ before, e.1 ≠ k) ∨
    ((∀ e ∈ t.entries, e.1 ≠ k) ∧ t.openWorld = true ∧ a = free k)

/-- An address function is absent for `k`. -/
def TableAbsent {κ : Type} (t : Table κ) (k : κ) : Prop := (∀ e ∈ t.entries, e.1 ≠ k) ∧ t.openWorld = false

/-! ### Invariants -/

/-- The frame is one that the calling convention pushes (44_call_exit.md R341). -/
def Frame.Follows : CallConv → Frame → Prop
  | .isaOnly, .isaOnly _ => True
  | .linux, .linux _ _ _ _ _ _ => True
  | _, _ => False

/-- Every active frame is one that the calling convention pushes, and no more are active than MAX_CALL_DEPTH allows
(44_call_exit.md R341, R346). -/
def CallsLegal (s : State) : Prop :=
  (∀ f ∈ s.calls, f.Follows s.platform.callConv) ∧ ∀ bound, s.platform.maxCallDepth = some bound → s.calls.length ≤ bound

/-- A slot number that sequential execution, a return or a checked jump may reach: an entry, or the end of the program. -/
def Reachable (program : List Slot) (t : Int) : Prop := isEntry program t = true ∨ t = program.length

/-- The program has passed the load check, and `pc` and every return slot are where such a program can be
(70_reset_and_hazards.md R502). -/
def Loaded (s : State) : Prop :=
  loadCheck s.platform s.program = true ∧ Reachable s.program s.pc ∧ ∀ f ∈ s.calls, Reachable s.program f.ret

end Sys2Proof.Machine
end

