-- ==== Sys2Proof/Certificates/Slice0/Obligations.lean ====
section
/-! DEFINITION. The statements for the provers, each formalising rules of spec/ as its docstring says. -/

section

open Sys2Proof Sys2Proof.Machine

/-- O1 (R90, R96, R97, R98, R109, R110). For either host byte order, every well-formed instruction i other than
IMM_NEXT and any bytes after it: decoding the bytes of the encoding of i followed by those bytes gives i and
leaves those bytes. IMM_NEXT is the row of a second slot: in instruction position its bytes match no row, and
the slot of its encoding, read in the position of a second slot, gives it. -/
def Obligations.DecodeEncodeRoundTrip : Prop :=
  (∀ (e : Endian) (i : Instr) (rest : List Byte), i.WellFormed → (∀ next, i ≠ .immNext next) →
      decode e (encode e i ++ rest) = .ok (i, rest)) ∧
    (∀ (e : Endian) (next : Imm) (rest : List Byte),
      decode e (encode e (.immNext next) ++ rest) = .error (.unassignedOpcode 0) ∧
        ∀ slot, encodeSlots e (.immNext next) = [slot] → decodeSecond (slot.fields e) = .ok (.immNext next))

/-- O2 (R97, R98, R110, R111). For either host: if decoding some bytes gives the instruction i and leaves rest, then
i is well-formed and is not IMM_NEXT, and the bytes are the encoding of i followed by rest. So no two byte
strings of one length decode to one instruction, every unused field of a decoded slot is zero, and no slot in
instruction position is the second slot of a wide instruction. -/
def Obligations.DecodedBytesAreTheEncoding : Prop :=
  ∀ (e : Endian) (bytes rest : List Byte) (i : Instr),
    decode e bytes = .ok (i, rest) → i.WellFormed ∧ (∀ next, i ≠ .immNext next) ∧ bytes = encode e i ++ rest

/-- O3 (R117). The instruction ADD_K_ALU64 with dst 1 and imm 0x11223344 is stored as 07 01 00 00 44 33 22 11 on a
little-endian host and as 07 10 00 00 11 22 33 44 on a big-endian host, and its fields are those of the
canonical word 0x1122334400000107. -/
def Obligations.WorkedExampleBytes : Prop :=
  encode .little (.addKAlu64 1 0x11223344) = [0x07, 0x01, 0x00, 0x00, 0x44, 0x33, 0x22, 0x11] ∧
    encode .big (.addKAlu64 1 0x11223344) = [0x07, 0x10, 0x00, 0x00, 0x11, 0x22, 0x33, 0x44] ∧
    encodeFields (.addKAlu64 1 0x11223344) = (canonicalFields 0x1122334400000107, none)

/-- O4 (R96, R109, 95_test_vectors.md). Ten canonical words, one or more of each family, decode to the instruction
the spec names for them: the words and instructions of section 2.1 of the test vectors. A sanity statement on
fixed values. -/
def Obligations.SampleWordsDecode : Prop :=
  decodeTableWord 64 0xffffffff00000304 = some (.addKAlu 3 0xffffffff) ∧
    decodeTableWord 64 0xfffffff900010597 = some (.smodKAlu64 5 0xfffffff9) ∧
    decodeTableWord 64 0x00000010000004dc = some (.endBeAlu16 4) ∧
    decodeTableWord 64 0x00000000fffc216d = some (.jsgtXJmp 1 2 0xfffc) ∧
    decodeTableWord 64 0xfffffffb00001085 = some (.callKJmpLocal 0xfffffffb) ∧
    decodeTableWord 64 0x0000007fffff0a72 = some (.memBSt 10 0xffff 0x7f) ∧
    decodeTableWord 64 0x00000000ffff6391 = some (.memsxBLdx 3 6 0xffff) ∧
    decodeTableWord 64 0x000000a1000821c3 = some (.atomicWStxXorFetch 1 2 8) ∧
    decodeTableWord 128 0xcafef00d00000000deadbeef00000218 = some (.immDwLdImm64 2 0xdeadbeef 0xcafef00d) ∧
    decodeTableWord 64 0x0000000200003048 = some (.indHLd 3 2)

/-- O5 (R98, R102, R103, R107, R110, R111). For either host, any slot whose opcode byte is none of the assigned
bytes of the opcode tables, and any slot or none after it: the decoder refuses it as an unassigned opcode and
names the byte. 0x00, the opcode of a second slot, is no assigned byte of an instruction position. -/
def Obligations.UnassignedOpcodesRefused : Prop :=
  ∀ (e : Endian) (first : Slot) (second : Option Slot),
    first.b0 ∉ assignedOpcodes →
      decodeSlots e first second = .error (.unassignedOpcode first.b0)

/-- O6 (R462, R98). For every program and slot number p: slot 0 is no second slot; slot p+1 is a second slot exactly
when it exists, slot p is not itself a second slot, and the opcode byte of slot p is 0x18. -/
def Obligations.SecondSlotScan : Prop :=
  ∀ (program : List Slot) (p : Nat), isSecondSlot program 0 = false ∧
    (isSecondSlot program (p + 1) = true ↔
      p + 1 < program.length ∧ isSecondSlot program p = false ∧ ∃ slot, program[p]? = some slot ∧ slot.b0 = 0x18)

/-- O7 (R462, R72, log 12). In a running state whose pc is a slot of the program in instruction position, where that
slot (with the slot after it) decodes to i: the step is the execution of i on the state after the environment
has acted. That state has the registers, pc, call stack, status, program, platform, coming acts of the helpers,
stacks in use and counter of free values of the state before it, and of the coming stores all but the first
entry: it differs only in memory (as EnvironmentStores says) and in that list. Where no store is listed it is
the state itself: that an exhausted list means an environment that does nothing is the model's choice (log 12). -/
def Obligations.StepRunsDecodedInstruction : Prop :=
  ∀ (s : State) (slot : Slot) (i : Instr), s.status = .running → 0 ≤ s.pc →
    s.program[s.pc.toNat]? = some slot → isSecondSlot s.program s.pc.toNat = false →
    decodeSlots s.platform.endian slot s.program[s.pc.toNat + 1]? = .ok i →
      step s = exec i s.interfere ∧ OnlyEnvironmentActed s s.interfere ∧ (s.interference = [] → step s = exec i s)

/-- O8 (R462, R463, R464, R465, R474). In a running state: pc below 0 or at or past the end of the program is
PcOutOfRange(pc); a pc inside the program at the second slot of a wide instruction is JumpIntoWide(pc); a pc
inside the program in instruction position whose slot does not decode is IllegalInstruction(pc). -/
def Obligations.FetchFaults : Prop :=
  ∀ s : State, s.status = .running →
    (s.pc < 0 ∨ s.program.length ≤ s.pc → step s = .fault (.pcOutOfRange s.pc)) ∧
    (0 ≤ s.pc → s.pc < s.program.length → isSecondSlot s.program s.pc.toNat = true →
      step s = .fault (.jumpIntoWide s.pc)) ∧
    (∀ slot err, 0 ≤ s.pc → s.program[s.pc.toNat]? = some slot → isSecondSlot s.program s.pc.toNat = false →
      decodeSlots s.platform.endian slot s.program[s.pc.toNat + 1]? = .error err →
        step s = .fault (.illegalInstruction s.pc))

/-- O9 (R54, log 14). In a state whose run has ended a step changes nothing. The spec says only that the run ends;
that the machine then stays is the model's choice (log 14). -/
def Obligations.EndedRunStays : Prop :=
  ∀ (s : State) (r : Option Word), s.status = .ended r → step s = .next s

/-- O10 (R141, R144, R146, R147, R149). ADD, SUB, MUL, DIV, SDIV, OR, AND, LSH, RSH, MOD, SMOD, XOR and ARSH of
class ALU, K and X: with valid register numbers, the group supported and the registers read holding values, the
instruction answers a next state in which dst holds the zero-extended 32-bit result that the integer law gives
for the low halves, pc is one further, and nothing else changed. -/
def Obligations.ArithResults32 : Prop :=
  ∀ (c : ArithCode) (dst : Reg) (s : State) (x : Word), dst.Valid → supports s.platform.groups c.group32 = true →
    s.reg dst = some x →
      (∀ imm, ∃ t, exec (c.k32 dst imm) s = .next t ∧
        RegisterResult s t dst ((c.result (x.setWidth 32) imm).setWidth 64) (s.pc + 1)) ∧
      (∀ src y, src.Valid → s.reg src = some y → ∃ t, exec (c.x32 dst src) s = .next t ∧
        RegisterResult s t dst ((c.result (x.setWidth 32) (y.setWidth 32)).setWidth 64) (s.pc + 1))

/-- O11 (R141, R144, R146, R147, R149). The same thirteen operations of class ALU64, K (with the sign-extended
immediate) and X: the next state has the 64-bit result that the integer law gives in dst, pc one further, and
nothing else changed. -/
def Obligations.ArithResults64 : Prop :=
  ∀ (c : ArithCode) (dst : Reg) (s : State) (x : Word), dst.Valid → supports s.platform.groups c.group64 = true →
    s.reg dst = some x →
      (∀ imm, ∃ t, exec (c.k64 dst imm) s = .next t ∧
        RegisterResult s t dst (c.result x (imm.signExtend 64)) (s.pc + 1)) ∧
      (∀ src y, src.Valid → s.reg src = some y → ∃ t, exec (c.x64 dst src) s = .next t ∧
        RegisterResult s t dst (c.result x y) (s.pc + 1))

/-- O12 (R168, R175, R176, R177, R178). NEG_K_ALU, MOV_K_ALU, MOV_X_ALU, MOVSX8_X_ALU and MOVSX16_X_ALU answer a
next state with the negated low half, the immediate, the low half of src, or the sign-extended low 8 or 16 bits
of src, zero-extended, in dst, pc one further, and nothing else changed. MOV and MOVSX do not read dst. -/
def Obligations.NegateAndMove32 : Prop :=
  ∀ (dst : Reg) (s : State), dst.Valid →
    (∀ x, s.reg dst = some x → ∃ t, exec (.negKAlu dst) s = .next t ∧
      RegisterResult s t dst ((BitVec.ofInt 32 (-(x.setWidth 32).toInt)).setWidth 64) (s.pc + 1)) ∧
    (∀ imm, ∃ t, exec (.movKAlu dst imm) s = .next t ∧ RegisterResult s t dst (imm.setWidth 64) (s.pc + 1)) ∧
    (∀ src y, src.Valid → s.reg src = some y →
      (∃ t, exec (.movXAlu dst src) s = .next t ∧
        RegisterResult s t dst (BitVec.ofNat 64 (y.toNat % 2 ^ 32)) (s.pc + 1)) ∧
      (∃ t, exec (.movsx8XAlu dst src) s = .next t ∧
        RegisterResult s t dst ((BitVec.ofInt 32 (y.setWidth 8).toInt).setWidth 64) (s.pc + 1)) ∧
      (∃ t, exec (.movsx16XAlu dst src) s = .next t ∧
        RegisterResult s t dst ((BitVec.ofInt 32 (y.setWidth 16).toInt).setWidth 64) (s.pc + 1)))

/-- O13 (R228, R235, R236, R237, R238, R239). NEG_K_ALU64, MOV_K_ALU64, MOV_X_ALU64, MOVSX8_X_ALU64, MOVSX16_X_ALU64
and MOVSX32_X_ALU64, with base64 supported, answer a next state with the negated dst, the sign-extended
immediate, src, or the sign-extended low 8, 16 or 32 bits of src in dst, pc one further, and nothing else
changed. -/
def Obligations.NegateAndMove64 : Prop :=
  ∀ (dst : Reg) (s : State), dst.Valid → supports s.platform.groups .base64 = true →
    (∀ x, s.reg dst = some x → ∃ t, exec (.negKAlu64 dst) s = .next t ∧
      RegisterResult s t dst (BitVec.ofInt 64 (-x.toInt)) (s.pc + 1)) ∧
    (∀ imm, ∃ t, exec (.movKAlu64 dst imm) s = .next t ∧
      RegisterResult s t dst (BitVec.ofInt 64 imm.toInt) (s.pc + 1)) ∧
    (∀ src y, src.Valid → s.reg src = some y →
      (∃ t, exec (.movXAlu64 dst src) s = .next t ∧ RegisterResult s t dst y (s.pc + 1)) ∧
      (∃ t, exec (.movsx8XAlu64 dst src) s = .next t ∧
        RegisterResult s t dst (BitVec.ofInt 64 (y.setWidth 8).toInt) (s.pc + 1)) ∧
      (∃ t, exec (.movsx16XAlu64 dst src) s = .next t ∧
        RegisterResult s t dst (BitVec.ofInt 64 (y.setWidth 16).toInt) (s.pc + 1)) ∧
      (∃ t, exec (.movsx32XAlu64 dst src) s = .next t ∧
        RegisterResult s t dst (BitVec.ofInt 64 (y.setWidth 32).toInt) (s.pc + 1)))

/-- O14 (R142). DIV and SDIV with a zero divisor (imm 0 in the K form; in the X form of class ALU a src whose low 32
bits are zero, of class ALU64 a src that is zero) answer a next state in which dst is zero, pc is one further
and nothing else changed. -/
def Obligations.DivisionByZero : Prop :=
  ∀ c ∈ [ArithCode.div, ArithCode.sdiv], ∀ (dst : Reg) (s : State) (x : Word), dst.Valid → s.reg dst = some x →
    (supports s.platform.groups .divmul32 = true →
      (∃ t, exec (c.k32 dst 0) s = .next t ∧ RegisterResult s t dst 0 (s.pc + 1)) ∧
      ∀ src y, src.Valid → s.reg src = some y → y.toNat % 2 ^ 32 = 0 →
        ∃ t, exec (c.x32 dst src) s = .next t ∧ RegisterResult s t dst 0 (s.pc + 1)) ∧
    (supports s.platform.groups .divmul64 = true →
      (∃ t, exec (c.k64 dst 0) s = .next t ∧ RegisterResult s t dst 0 (s.pc + 1)) ∧
      ∀ src, src.Valid → s.reg src = some 0 →
        ∃ t, exec (c.x64 dst src) s = .next t ∧ RegisterResult s t dst 0 (s.pc + 1))

/-- O15 (R143). MOD and SMOD with a zero divisor answer a next state in which dst holds its low 32 bits zero-
extended (class ALU) or what it held (class ALU64), pc is one further and nothing else changed. -/
def Obligations.ModuloByZero : Prop :=
  ∀ c ∈ [ArithCode.mod, ArithCode.smod], ∀ (dst : Reg) (s : State) (x : Word), dst.Valid → s.reg dst = some x →
    (supports s.platform.groups .divmul32 = true →
      (∃ t, exec (c.k32 dst 0) s = .next t ∧
        RegisterResult s t dst (BitVec.ofNat 64 (x.toNat % 2 ^ 32)) (s.pc + 1)) ∧
      ∀ src y, src.Valid → s.reg src = some y → y.toNat % 2 ^ 32 = 0 → ∃ t, exec (c.x32 dst src) s = .next t ∧
        RegisterResult s t dst (BitVec.ofNat 64 (x.toNat % 2 ^ 32)) (s.pc + 1)) ∧
    (supports s.platform.groups .divmul64 = true →
      (∃ t, exec (c.k64 dst 0) s = .next t ∧ RegisterResult s t dst x (s.pc + 1)) ∧
      ∀ src, src.Valid → s.reg src = some 0 →
        ∃ t, exec (c.x64 dst src) s = .next t ∧ RegisterResult s t dst x (s.pc + 1))

/-- O16 (R145). For the X forms of SDIV and SMOD on the same registers, in both classes, with a non-zero divisor:
both answer a next state; outside the one overflow the quotient q and the remainder r satisfy a = n * q + r, |r|
< |n|, and r is zero or has the sign of a; at the most negative dividend and divisor -1 the quotient is the
dividend and the remainder is 0. -/
def Obligations.SignedDivisionLaw : Prop :=
  ∀ (dst src : Reg) (s : State) (x y : Word), dst.Valid → src.Valid → s.reg dst = some x → s.reg src = some y →
    (supports s.platform.groups .divmul64 = true → y.toInt ≠ 0 → ∃ tq tr q r,
      exec (.sdivXAlu64 dst src) s = .next tq ∧ tq.reg dst = some q ∧
      exec (.smodXAlu64 dst src) s = .next tr ∧ tr.reg dst = some r ∧
      if x.toInt = -2 ^ 63 ∧ y.toInt = -1 then q = x ∧ r = 0
      else x.toInt = y.toInt * q.toInt + r.toInt ∧ r.toInt.natAbs < y.toInt.natAbs ∧
        (r.toInt = 0 ∨ r.toInt.sign = x.toInt.sign)) ∧
    (supports s.platform.groups .divmul32 = true → (y.setWidth 32).toInt ≠ 0 → ∃ tq tr, ∃ q r : Word32,
      exec (.sdivXAlu dst src) s = .next tq ∧ tq.reg dst = some (q.setWidth 64) ∧
      exec (.smodXAlu dst src) s = .next tr ∧ tr.reg dst = some (r.setWidth 64) ∧
      if (x.setWidth 32).toInt = -2 ^ 31 ∧ (y.setWidth 32).toInt = -1 then q = x.setWidth 32 ∧ r = 0
      else (x.setWidth 32).toInt = (y.setWidth 32).toInt * q.toInt + r.toInt ∧
        r.toInt.natAbs < (y.setWidth 32).toInt.natAbs ∧ (r.toInt = 0 ∨ r.toInt.sign = (x.setWidth 32).toInt.sign))

/-- O17 (R148). With dst and src the same register holding x: ADD doubles, SUB and XOR give 0, AND and OR give the
operand, DIV gives 1 (0 for a zero operand), MOD gives 0; in class ALU on the low 32 bits, zero-extended. -/
def Obligations.SameRegisterOperands : Prop :=
  ∀ (r : Reg) (s : State) (x : Word), r.Valid → s.reg r = some x →
    supports s.platform.groups .base64 = true → supports s.platform.groups .divmul64 = true →
      ∀ p ∈ [(Instr.addXAlu64 r r, BitVec.ofNat 64 (2 * x.toNat)), (.subXAlu64 r r, 0), (.xorXAlu64 r r, 0),
        (.andXAlu64 r r, x), (.orXAlu64 r r, x), (.divXAlu64 r r, if x = 0 then 0 else 1), (.modXAlu64 r r, 0),
        (.addXAlu r r, BitVec.ofNat 64 (2 * x.toNat % 2 ^ 32)), (.subXAlu r r, 0), (.xorXAlu r r, 0),
        (.andXAlu r r, BitVec.ofNat 64 (x.toNat % 2 ^ 32)), (.orXAlu r r, BitVec.ofNat 64 (x.toNat % 2 ^ 32)),
        (.divXAlu r r, if x.toNat % 2 ^ 32 = 0 then 0 else 1), (.modXAlu r r, 0)],
        ∃ t, exec p.1 s = .next t ∧ RegisterResult s t r p.2 (s.pc + 1)

/-- O18 (R32, R141, R392). If an instruction of class ALU other than a byte swap, or a 32-bit atomic, answers a next
state, then every register it writes holds a value whose upper 32 bits are zero. (The width-64 byte swaps of
class ALU act on all 64 bits by R261, so byte swaps are left out here and stated elsewhere.) -/
def Obligations.ThirtyTwoBitResultsClearUpperHalf : Prop :=
  ∀ (i : Instr) (s t : State), exec i s = .next t →
    ((encodeFields i).1.opcode.toNat % 8 = 4 ∧ (encodeFields i).1.opcode ≠ 0xd4 ∧ (encodeFields i).1.opcode ≠ 0xdc) ∨
      (encodeFields i).1.opcode = 0xc3 →
      ∀ r ∈ writesOf i, ∃ v, t.reg r = some v ∧ v.toNat < 2 ^ 32

/-- O19 (R260, R261, R17). With dst valid and holding x: END LE is the identity on the low 2, 4 or 8 bytes on a
little-endian host and reverses them on a big-endian host, END BE the other way round, END TO always reverses
them; the result is zero-extended into dst, pc is one further, and nothing else changed. Width 64 needs base64. -/
def Obligations.ByteSwapResults : Prop :=
  ∀ (dst : Reg) (s : State) (x : Word), dst.Valid → s.reg dst = some x →
    let kept (n : Nat) : Word := BitVec.ofNat 64 (x.toNat % 256 ^ n)
    let swapped (n : Nat) : Word := BitVec.ofNat 64 (hostValue .big (hostBytes .little n x.toNat))
    let le (n : Nat) : Word := if s.platform.endian = .little then kept n else swapped n
    let be (n : Nat) : Word := if s.platform.endian = .big then kept n else swapped n
    (∀ p ∈ [(Instr.endLeAlu16 dst, le 2), (.endLeAlu32 dst, le 4), (.endBeAlu16 dst, be 2), (.endBeAlu32 dst, be 4),
        (.endToAlu6416 dst, swapped 2), (.endToAlu6432 dst, swapped 4)],
        ∃ t, exec p.1 s = .next t ∧ RegisterResult s t dst p.2 (s.pc + 1)) ∧
    (supports s.platform.groups .base64 = true →
      ∀ p ∈ [(Instr.endLeAlu64 dst, le 8), (.endBeAlu64 dst, be 8), (.endToAlu6464 dst, swapped 8)],
        ∃ t, exec p.1 s = .next t ∧ RegisterResult s t dst p.2 (s.pc + 1))

/-- O20 (R262, R264, R267, R270). If a byte swap of n bytes answers a next state and again answers a next state from
there, then dst holds the low n bytes of what it held, zero-extended: for each of the nine byte swaps. -/
def Obligations.ByteSwapTwice : Prop :=
  ∀ (dst : Reg) (s t u : State) (x : Word), s.reg dst = some x →
    ∀ p ∈ [(Instr.endLeAlu16 dst, 2), (.endLeAlu32 dst, 4), (.endLeAlu64 dst, 8), (.endBeAlu16 dst, 2),
      (.endBeAlu32 dst, 4), (.endBeAlu64 dst, 8), (.endToAlu6416 dst, 2), (.endToAlu6432 dst, 4), (.endToAlu6464 dst, 8)],
      exec p.1 s = .next t → exec p.1 t = .next u → u.reg dst = some (BitVec.ofNat 64 (x.toNat % 256 ^ p.2))

/-- O21 (R280, R281, R282, R285). JEQ, JGT, JGE, JSET, JNE, JSGT, JSGE, JLT, JLE, JSLT and JSLE of class JMP, K and
X: with valid registers that hold values and base64 supported, the jump answers a next state with pc at next_pc
plus the signed offset where the condition holds of the operands, and at next_pc where it does not; no register,
no byte and nothing else changes. -/
def Obligations.BranchResults64 : Prop :=
  ∀ (c : CondCode) (dst : Reg) (off : Off) (s : State) (x : Word), dst.Valid → supports s.platform.groups .base64 = true → s.reg dst = some x →
    (∀ imm : Imm, ∃ t, exec (c.k64 dst imm off) s = .next t ∧
      (c.Holds x (imm.signExtend 64) → JumpResult s t (s.pc + 1 + off.toInt)) ∧
      (¬ c.Holds x (imm.signExtend 64) → JumpResult s t (s.pc + 1))) ∧
    (∀ src y, src.Valid → s.reg src = some y → ∃ t, exec (c.x64 dst src off) s = .next t ∧
      (c.Holds x y → JumpResult s t (s.pc + 1 + off.toInt)) ∧
      (¬ c.Holds x y → JumpResult s t (s.pc + 1)))

/-- O22 (R280, R281, R282, R285). JEQ, JGT, JGE, JSET, JNE, JSGT, JSGE, JLT, JLE, JSLT and JSLE of class JMP32, K
and X: with valid registers that hold values, the jump answers a next state with pc at next_pc plus the signed
offset where the condition holds of the operands, and at next_pc where it does not; no register, no byte and
nothing else changes. -/
def Obligations.BranchResults32 : Prop :=
  ∀ (c : CondCode) (dst : Reg) (off : Off) (s : State) (x : Word), dst.Valid → s.reg dst = some x →
    (∀ imm : Imm, ∃ t, exec (c.k32 dst imm off) s = .next t ∧
      (c.Holds (x.setWidth 32) imm → JumpResult s t (s.pc + 1 + off.toInt)) ∧
      (¬ c.Holds (x.setWidth 32) imm → JumpResult s t (s.pc + 1))) ∧
    (∀ src y, src.Valid → s.reg src = some y → ∃ t, exec (c.x32 dst src off) s = .next t ∧
      (c.Holds (x.setWidth 32) (y.setWidth 32) → JumpResult s t (s.pc + 1 + off.toInt)) ∧
      (¬ c.Holds (x.setWidth 32) (y.setWidth 32) → JumpResult s t (s.pc + 1)))

/-- O23 (R286, R287). JA_K_JMP answers a next state with pc at next_pc plus the signed 16-bit offset, JA_K_JMP32
with pc at next_pc plus the signed 32-bit immediate, in every state; nothing else changes. -/
def Obligations.JumpAlwaysResults : Prop :=
  ∀ s : State,
    (∀ off : Off, ∃ t, exec (.jaKJmp off) s = .next t ∧ JumpResult s t (s.pc + 1 + off.toInt)) ∧
    (∀ imm : Imm, ∃ t, exec (.jaKJmp32 imm) s = .next t ∧ JumpResult s t (s.pc + 1 + imm.toInt))

/-- O24 (R340, R342, R344, log 9, log 26). CALL by static id and by BTF id, where the id has a helper and the next
act of the helpers returns: the call answers a next state with the result in r0, no value in r1 to r5, r6 to r10
as they were, pc one further, the call stack, the status, the program and the platform unchanged; a byte the act
stores to, if writable, holds the last value stored; every other byte is as it was. That what a helper does
comes as a list of acts, which a call takes in turn, is the model's form of the platform's relation (log 9);
that the stores of an act to bytes that R344 does not let it write are dropped is the model's reading (log 26). -/
def Obligations.HelperCallLinux : Prop :=
  ∀ (btf : Bool) (imm : Imm) (s : State) (x : Word) (named : List (Fin 11 × Word)) (writes : List Host.Cell)
    (rest : List HelperAct), s.platform.callConv = .linux →
    hasHelper (if btf then s.platform.helpersByBtf else s.platform.helpersById) imm = true →
    s.helperActs = .returns x named writes :: rest →
      ∃ t, exec (if btf then .callKJmpBtf imm else .callKJmpHelper imm) s = .next t ∧
        t.reg 0 = some x ∧ (∀ r : Reg, 1 ≤ r.toNat → r.toNat ≤ 5 → t.reg r = none) ∧
        (∀ r : Reg, 6 ≤ r.toNat → t.reg r = s.reg r) ∧ t.pc = s.pc + 1 ∧ t.calls = s.calls ∧ t.status = s.status ∧
        t.program = s.program ∧ t.platform = s.platform ∧ t.helperActs = rest ∧ t.stackTops = s.stackTops ∧
        (∀ a : Word, (∀ c ∈ writes, c.1 ≠ a.toNat) ∨ ¬ Admitted s.platform a 1 .write → byteAt t a = byteAt s a) ∧
        (∀ (a : Word) b before after, writes = before ++ (a.toNat, b) :: after → (∀ c ∈ after, c.1 ≠ a.toNat) →
          Admitted s.platform a 1 .write → byteAt t a = b)

/-- O25 (R340, R342, R344, log 9, log 26). CALL by static id and by BTF id under isa_only, where the id has a helper
and the next act returns: the call answers a next state in which a register that the act names holds the last
value named for it and every other register holds no value; pc is one further; the call stack, the status, the
program and the platform are unchanged; a byte the act stores to holds the last value stored, wherever it lies;
every other byte is as it was. That what a helper does comes as a list of acts, which a call takes in turn, is
the model's form of the platform's relation (log 9); that under isa_only, where R344 says that nothing is
assumed, every store of an act is made wherever it lies, later ones over earlier ones, is the model's reading
(log 26). -/
def Obligations.HelperCallIsaOnly : Prop :=
  ∀ (btf : Bool) (imm : Imm) (s : State) (x : Word) (named : List (Fin 11 × Word)) (writes : List Host.Cell)
    (rest : List HelperAct), s.platform.callConv = .isaOnly →
    hasHelper (if btf then s.platform.helpersByBtf else s.platform.helpersById) imm = true →
    s.helperActs = .returns x named writes :: rest →
      ∃ t, exec (if btf then .callKJmpBtf imm else .callKJmpHelper imm) s = .next t ∧
        (∀ (r : Fin 11) v before after, named = before ++ (r, v) :: after → (∀ e ∈ after, e.1 ≠ r) →
          t.reg (BitVec.ofNat 4 r) = some v) ∧
        (∀ r : Fin 11, (∀ e ∈ named, e.1 ≠ r) → t.reg (BitVec.ofNat 4 r) = none) ∧
        t.pc = s.pc + 1 ∧ t.calls = s.calls ∧ t.status = s.status ∧ t.program = s.program ∧ t.platform = s.platform ∧
        t.helperActs = rest ∧ t.stackTops = s.stackTops ∧
        (∀ a : Word, (∀ c ∈ writes, c.1 ≠ a.toNat) → byteAt t a = byteAt s a) ∧
        (∀ (a : Word) b before after, writes = before ++ (a.toNat, b) :: after → (∀ c ∈ after, c.1 ≠ a.toNat) →
          byteAt t a = b)

/-- O26 (R344, log 9, log 26). CALL by static id and by BTF id, where the id has a helper and no act is listed: the
call answers a next state, whatever the free values are; pc is one further and the call stack, the status, the
program and the platform are unchanged; under linux r0 holds some value, r1 to r5 hold none, r6 to r10 are as
they were, and a byte that the program may not write is as it was. That an unlisted act means free values is the
model's choice (log 9); that free stores to bytes that R344 does not let the helper write under linux are
dropped is its reading (log 26). -/
def Obligations.HelperCallUnlisted : Prop :=
  ∀ (btf : Bool) (imm : Imm) (s : State),
    hasHelper (if btf then s.platform.helpersByBtf else s.platform.helpersById) imm = true → s.helperActs = [] →
      ∃ t, exec (if btf then .callKJmpBtf imm else .callKJmpHelper imm) s = .next t ∧
        t.pc = s.pc + 1 ∧ t.calls = s.calls ∧ t.status = s.status ∧ t.program = s.program ∧ t.platform = s.platform ∧
        t.stackTops = s.stackTops ∧ (s.platform.callConv = .linux → (∃ x, t.reg 0 = some x) ∧
          (∀ r : Reg, 1 ≤ r.toNat → r.toNat ≤ 5 → t.reg r = none) ∧ (∀ r : Reg, 6 ≤ r.toNat → t.reg r = s.reg r) ∧
          ∀ a : Word, ¬ Admitted s.platform a 1 .write → byteAt t a = byteAt s a)

/-- O27 (R340, R342, R469, R344, log 9, log 27). CALL by static id and by BTF id: an id without a helper is the
fault UnknownHelper(imm), whatever acts are listed; where there is a helper and the next act (log 9) is a fault,
the call is the fault helperFault(imm). R344 lets a helper raise a fault of its own contract and names none: the
name helperFault and its argument are the model's choice (log 27). -/
def Obligations.HelperCallFaults : Prop :=
  ∀ (btf : Bool) (imm : Imm) (s : State),
    (hasHelper (if btf then s.platform.helpersByBtf else s.platform.helpersById) imm = false →
      exec (if btf then .callKJmpBtf imm else .callKJmpHelper imm) s = .fault (.unknownHelper imm)) ∧
    (∀ rest, hasHelper (if btf then s.platform.helpersByBtf else s.platform.helpersById) imm = true →
      s.helperActs = .fault :: rest →
        exec (if btf then .callKJmpBtf imm else .callKJmpHelper imm) s = .fault (.helperFault imm))

/-- O28 (R341, R345, log 11, log 29). Where the depth bound is not reached, CALL_K_JMP_LOCAL answers a next state
with pc at next_pc plus the signed immediate and memory unchanged. Under isa_only the frame is the return slot
and no register changes. Under linux the frame also holds what r6 to r10 held; r0 to r5 are as they were, r6 to
r9 hold no value, and r10 holds a frame pointer, which is a fresh one wherever a fresh one exists, is private
wherever a private one exists, is apart from the stacks in use wherever there is room for that, and is in use
from now on. What fresh means among the regions supplied at launch, and that a fresh frame pointer which the
platform lists for this depth is the one chosen, is the model's reading of 'a fresh frame pointer chosen by the
platform' (log 11); the record of the stacks in use is the model's own field (log 29). -/
def Obligations.LocalCallResults : Prop :=
  ∀ (imm : Imm) (s : State), (∀ bound, s.platform.maxCallDepth = some bound → s.calls.length < bound) →
    ∃ t, exec (.callKJmpLocal imm) s = .next t ∧ t.pc = s.pc + 1 + imm.toInt ∧ SameBytes s t ∧ t.status = s.status ∧
      t.program = s.program ∧ t.platform = s.platform ∧ t.interference = s.interference ∧ t.helperActs = s.helperActs ∧
      (s.platform.callConv = .isaOnly →
        SameRegs s t ∧ t.stackTops = s.stackTops ∧ t.calls = .isaOnly (s.pc + 1) :: s.calls) ∧
      (s.platform.callConv = .linux →
        (∃ top, t.reg 10 = some top ∧ t.stackTops = top :: s.stackTops ∧ ((∃ v, FreshTop s v) → FreshTop s top) ∧
          ((∃ v, PrivateTop s v) → PrivateTop s top) ∧ ((∃ v, ApartTop s v) → ApartTop s top) ∧
          ∀ v, s.platform.framePointers[s.calls.length]? = some v → FreshTop s v → top = v) ∧
        t.calls = .linux (s.pc + 1) (s.reg 6) (s.reg 7) (s.reg 8) (s.reg 9) (s.reg 10) :: s.calls ∧
        (∀ r : Reg, r.toNat ≤ 5 → t.reg r = s.reg r) ∧ ∀ r : Reg, 6 ≤ r.toNat → r.toNat ≤ 9 → t.reg r = none)

/-- O29 (R470). CALL_K_JMP_LOCAL is the fault CallDepth where the call stack already holds MAX_CALL_DEPTH frames;
and an instruction that is the fault CallDepth is CALL_K_JMP_LOCAL, in a state with a bound MAX_CALL_DEPTH and
that many frames or more. -/
def Obligations.CallDepthFault : Prop :=
  ∀ s : State,
    (∀ (imm : Imm) (bound : Nat), s.platform.maxCallDepth = some bound → bound ≤ s.calls.length →
      exec (.callKJmpLocal imm) s = .fault .callDepth) ∧
    (∀ i : Instr, exec i s = .fault .callDepth →
      ∃ imm bound, i = .callKJmpLocal imm ∧ s.platform.maxCallDepth = some bound ∧ bound ≤ s.calls.length)

/-- O30 (R343, R345, log 20, log 29). EXIT_K_JMP with a frame on the call stack answers a next state with pc at its
return slot, the frame popped and memory unchanged. A frame of isa_only changes no register; a frame of linux
puts back what it holds into r6 to r10, leaves r0, takes the values of r1 to r5, and gives back the stack of the
callee (the model's own record, log 29). That a frame is restored by the form it was pushed in is the model's
choice (log 20); in a run it is the form of CallConv. -/
def Obligations.ExitReturns : Prop :=
  ∀ (s : State) (rest : List Frame) (ret : Int),
    (s.calls = .isaOnly ret :: rest → ∃ t, exec .exitKJmp s = .next t ∧ t.pc = ret ∧ t.calls = rest ∧
      SameRegs s t ∧ SameBytes s t ∧ t.status = s.status ∧ t.stackTops = s.stackTops) ∧
    (∀ r6 r7 r8 r9 r10, s.calls = .linux ret r6 r7 r8 r9 r10 :: rest →
      ∃ t, exec .exitKJmp s = .next t ∧ t.pc = ret ∧ t.calls = rest ∧ SameBytes s t ∧ t.status = s.status ∧
        t.stackTops = s.stackTops.tail ∧ t.reg 0 = s.reg 0 ∧ (∀ r : Reg, 1 ≤ r.toNat → r.toNat ≤ 5 → t.reg r = none) ∧
        t.reg 6 = r6 ∧ t.reg 7 = r7 ∧ t.reg 8 = r8 ∧ t.reg 9 = r9 ∧ t.reg 10 = r10)

/-- O31 (R343, R54, log 14). EXIT_K_JMP with no active frame ends the run and changes nothing else. Under linux the
result is x[0], and an x[0] without a value is the fault UninitRegister(0); under isa_only no result is singled
out. That pc stays where it is is the model's choice (log 14): the spec says only that the run ends. -/
def Obligations.ExitEndsRun : Prop :=
  ∀ s : State, s.calls = [] →
    (∀ v, s.platform.callConv = .linux → s.reg 0 = some v → ∃ t, exec .exitKJmp s = .next t ∧
      t.status = .ended (some v) ∧ SameRegs s t ∧ SameBytes s t ∧ t.pc = s.pc ∧ t.calls = [] ∧ t.stackTops = s.stackTops) ∧
    (s.platform.callConv = .linux → s.reg 0 = none → exec .exitKJmp s = .fault (.uninitRegister 0)) ∧
    (s.platform.callConv = .isaOnly → ∃ t, exec .exitKJmp s = .next t ∧
      t.status = .ended none ∧ SameRegs s t ∧ SameBytes s t ∧ t.pc = s.pc ∧ t.calls = [] ∧ t.stackTops = s.stackTops)

/-- O32 (R341, R343, R345, log 20, log 29). If a program-local call answers t, and EXIT executed in any state u with
the call stack of t answers v, then pc of v is the slot after the call and the call stack is the caller's; if
the caller ran under linux, r6 to r10 are what they were at the call; if under isa_only, the EXIT changed no
register; and where u has the stacks in use of t, those of v are the caller's (the model's own record, log 29).
That the EXIT restores by the form of the frame, whatever the platform of u, is the model's choice (log 20): in
a run the platform does not change, and the form is that of CallConv. -/
def Obligations.CallThenExitRestores : Prop :=
  ∀ (imm : Imm) (s t u v : State), exec (.callKJmpLocal imm) s = .next t → u.calls = t.calls →
    exec .exitKJmp u = .next v →
      v.pc = s.pc + 1 ∧ v.calls = s.calls ∧
      (s.platform.callConv = .linux → ∀ r : Reg, 6 ≤ r.toNat → r.toNat ≤ 10 → v.reg r = s.reg r) ∧
      (s.platform.callConv = .isaOnly → SameRegs u v) ∧ (u.stackTops = t.stackTops → v.stackTops = s.stackTops)

/-- O33 (R345, R66, log 11, log 29). Under linux, where the platform has a fresh frame pointer, after a program-
local call r10 holds one; every access of any kind within the STACK_SIZE bytes below it is admitted on the
platform, which no step changes; and each byte of that stack is private and lies in the stack of no function
that was active at the call, whatever any register held. What fresh means among the regions supplied at launch
is the model's reading of R345 (log 11), and the record of the stacks in use its own field (log 29). -/
def Obligations.CalleeStackUsable : Prop :=
  ∀ (imm : Imm) (s t : State), s.platform.callConv = .linux → (∃ v, FreshTop s v) →
    exec (.callKJmpLocal imm) s = .next t →
      ∃ top, t.reg 10 = some top ∧ t.platform = s.platform ∧ t.stackTops = top :: s.stackTops ∧
        (∀ (addr : Word) (n : Nat) (k : MemKind), k ≠ .misaligned → addr.toNat + n ≤ top.toNat →
          top.toNat ≤ addr.toNat + s.platform.stackSize → Admitted t.platform addr n k) ∧
        ∀ a, StackByte s.platform top a →
          PrivateByte t.platform a ∧ ¬ SharedByte t.platform a ∧ ∀ u ∈ s.stackTops, ¬ StackByte s.platform u a

/-- O34 (R345, R51, log 11, log 29). For every state in which no two stacks in use have a byte in common, and in
which there is room for one more apart from them: if the step answers a next state, no two of its stacks in use
have a byte in common, whatever the program did to r10. The record of the stacks in use is the model's own field
(log 29), and what a new one may be its reading of R345 (log 11). -/
def Obligations.StacksInUseStayApart : Prop :=
  ∀ s t : State, StacksApart s → (∃ v, ApartTop s v) → step s = .next t → StacksApart t

/-- O35 (R360, R361, R61, R362, R374). MEM_B_LDX, MEM_H_LDX, MEM_W_LDX, MEM_DW_LDX, MEMSX_B_LDX, MEMSX_H_LDX and
MEMSX_W_LDX: with valid registers, the group supported, the base holding a value and the access performed by the
memory rules, the load answers a next state in which dst holds the number that the bytes at base plus offset
denote in host byte order, zero-extended (MEM) or sign-extended (MEMSX), pc one further, and nothing else
changed. -/
def Obligations.LoadResults : Prop :=
  ∀ (dst src : Reg) (off : Off) (s : State) (base : Word), dst.Valid → src.Valid → s.reg src = some base →
    let addr := effectiveAddress base off
    let v (n : Nat) : Nat := hostValue s.platform.endian (bytesAt s addr n)
    (∀ size : Size, supports s.platform.groups size.group = true → AccessAllowed s.platform addr size.bytes .read →
      ∃ t, exec (size.load dst src off) s = .next t ∧
        RegisterResult s t dst (BitVec.ofNat 64 (v size.bytes)) (s.pc + 1)) ∧
    (AccessAllowed s.platform addr 1 .read → ∃ t, exec (.memsxBLdx dst src off) s = .next t ∧
      RegisterResult s t dst (BitVec.ofInt 64 (BitVec.ofNat 8 (v 1)).toInt) (s.pc + 1)) ∧
    (AccessAllowed s.platform addr 2 .read → ∃ t, exec (.memsxHLdx dst src off) s = .next t ∧
      RegisterResult s t dst (BitVec.ofInt 64 (BitVec.ofNat 16 (v 2)).toInt) (s.pc + 1)) ∧
    (AccessAllowed s.platform addr 4 .read → ∃ t, exec (.memsxWLdx dst src off) s = .next t ∧
      RegisterResult s t dst (BitVec.ofInt 64 (BitVec.ofNat 32 (v 4)).toInt) (s.pc + 1))

/-- O36 (R360, R361, R62, R366, R370). MEM_B_ST, MEM_H_ST, MEM_W_ST, MEM_DW_ST and MEM_B_STX, MEM_H_STX, MEM_W_STX,
MEM_DW_STX: with valid registers that hold values, the group supported and the access performed by the memory
rules, the store answers a next state in which the bytes at base plus offset are the low bytes of the sign-
extended immediate or of src in host byte order, every other byte and every register is as it was, and pc is one
further. -/
def Obligations.StoreResults : Prop :=
  ∀ (size : Size) (dst : Reg) (off : Off) (s : State) (base : Word), dst.Valid → s.reg dst = some base →
    supports s.platform.groups size.group = true →
    AccessAllowed s.platform (effectiveAddress base off) size.bytes .write →
      (∀ imm : Imm, ∃ t, exec (size.storeImm dst off imm) s = .next t ∧
        StoreResult s t (effectiveAddress base off)
          (hostBytes s.platform.endian size.bytes (imm.signExtend 64).toNat) (s.pc + 1)) ∧
      (∀ src v, src.Valid → s.reg src = some v → ∃ t, exec (size.storeReg dst src off) s = .next t ∧
        StoreResult s t (effectiveAddress base off) (hostBytes s.platform.endian size.bytes v.toNat) (s.pc + 1))

/-- O37 (R65, R66, R79, R468, R474, log 13). For every load, store and atomic that is well-formed, whose group is
supported and whose registers hold values, with addr its address and n its bytes: misaligned where MISALIGNED =
fault or the instruction is an atomic is MemFault(addr, n, misaligned); aligned and not admitted is
MemFault(addr, n, kind); misaligned under split and spanning the wrap is MemFault(addr, n, kind); misaligned
under split with byte j the first one not admitted is MemFault(addr + j, 1, kind). The fault of the split access
that spans the wrap, and its arguments, are the model's reading of R79 beside R65 (log 13). -/
def Obligations.MemFaults : Prop :=
  ∀ (i : Instr) (r : Reg) (off : Off) (size : Size) (k : MemKind) (s : State) (base : Word),
    accessOf i = some (r, off, size, k) → i.WellFormed → supports s.platform.groups (groupOf i) = true →
    (∀ q ∈ readsOf i, s.reg q ≠ none) → s.reg r = some base →
      let addr := effectiveAddress base off
      let n := size.bytes
      (addr.toNat % n ≠ 0 → s.platform.misaligned = .fault ∨ k = .atomic →
        exec i s = .fault (.memFault addr n .misaligned)) ∧
      (addr.toNat % n = 0 → ¬ Admitted s.platform addr n k → exec i s = .fault (.memFault addr n k)) ∧
      (addr.toNat % n ≠ 0 → s.platform.misaligned = .split → k ≠ .atomic →
        (2 ^ 64 < addr.toNat + n → exec i s = .fault (.memFault addr n k)) ∧
        ∀ j < n, addr.toNat + n ≤ 2 ^ 64 → (∀ l < j, Admitted s.platform (addr + BitVec.ofNat 64 l) 1 k) →
          ¬ Admitted s.platform (addr + BitVec.ofNat 64 j) 1 k →
            exec i s = .fault (.memFault (addr + BitVec.ofNat 64 j) 1 k))

/-- O38 (R61, R62, R71). If a store of a register answers a next state and the same bytes may be read, then a load
of the same size from the same base register and offset answers a next state in which its destination holds the
low bytes of the stored register, zero-extended, for every size and either byte order. -/
def Obligations.StoreThenLoad : Prop :=
  ∀ (size : Size) (dst src d : Reg) (off : Off) (s t : State) (base v : Word), d.Valid → s.reg dst = some base →
    s.reg src = some v → exec (size.storeReg dst src off) s = .next t →
    AccessAllowed s.platform (effectiveAddress base off) size.bytes .read →
      ∃ u, exec (size.load d dst off) t = .next u ∧ u.reg d = some (BitVec.ofNat 64 (v.toNat % 256 ^ size.bytes))

/-- O39 (R64, R61, R62). After MemWrite(a, 4, 0x11223344) succeeds: MemRead(a, 1) is 0x44 on a little-endian host
and 0x11 on a big-endian host, MemRead(a + 3, 1) is 0x11 and 0x44, wherever those bytes may be read; and, for
every size and value stored, reading any one byte of what was stored gives the byte that rule R62 put there. -/
def Obligations.NarrowReadAfterWideStore : Prop :=
  (∀ (s t : State) (a : Word), memWrite s a .w 0x11223344 = .ok t →
    (Admitted s.platform a 1 .read → memRead t a .b = .ok (if s.platform.endian = .little then 0x44 else 0x11)) ∧
    (Admitted s.platform (a + 3) 1 .read →
      memRead t (a + 3) .b = .ok (if s.platform.endian = .little then 0x11 else 0x44))) ∧
  (∀ (s t : State) (a v : Word) (size : Size) (k : Nat), memWrite s a size v = .ok t → k < size.bytes →
    Admitted s.platform (a + BitVec.ofNat 64 k) 1 .read →
      memRead t (a + BitVec.ofNat 64 k) .b =
        .ok (BitVec.ofNat 64 (v.toNat / 256 ^ (if s.platform.endian = .little then k else size.bytes - 1 - k) % 256)))

/-- O40 (R391, R392, R393). ADD, OR, AND and XOR without FETCH, 4 and 8 bytes: with valid registers that hold
values, the group supported and the access performed, the atomic answers a next state in which the bytes at base
plus offset are the operation on the old value and the low bytes of src, in host byte order; every other byte
and every register is as it was; pc is one further. -/
def Obligations.AtomicPlainResults : Prop :=
  ∀ (z : AtomicSize) (dst src : Reg) (off : Off) (s : State) (base v : Word), dst.Valid → src.Valid →
    supports s.platform.groups z.group = true → s.reg dst = some base → s.reg src = some v →
    AccessAllowed s.platform (effectiveAddress base off) z.bytes .atomic →
      let addr := effectiveAddress base off
      let old := hostValue s.platform.endian (bytesAt s addr z.bytes)
      ∀ c : AtomicCode, ∃ t, exec (c.plain z dst src off) s = .next t ∧
        StoreResult s t addr (hostBytes s.platform.endian z.bytes (c.new old (v.toNat % 256 ^ z.bytes))) (s.pc + 1)

/-- O41 (R391, R392, R393). The same operations with FETCH: as without, and src holds the old value zero-extended,
also where src and dst are one register; every other register is as it was. -/
def Obligations.AtomicFetchResults : Prop :=
  ∀ (z : AtomicSize) (dst src : Reg) (off : Off) (s : State) (base v : Word), dst.Valid → src.Valid →
    supports s.platform.groups z.group = true → s.reg dst = some base → s.reg src = some v →
    AccessAllowed s.platform (effectiveAddress base off) z.bytes .atomic →
      let addr := effectiveAddress base off
      let old := hostValue s.platform.endian (bytesAt s addr z.bytes)
      ∀ c : AtomicCode, ∃ t, exec (c.fetching z dst src off) s = .next t ∧
        ExchangeResult s t addr (hostBytes s.platform.endian z.bytes (c.new old (v.toNat % 256 ^ z.bytes))) src
          (BitVec.ofNat 64 old) (s.pc + 1)

/-- O42 (R391, R392, R402, R412). ATOMIC_W_STX_XCHG and ATOMIC_DW_STX_XCHG: with valid registers that hold values,
the group supported and the access performed, the exchange answers a next state in which the bytes at base plus
offset are the low bytes of src, src holds the old value zero-extended, pc is one further, and nothing else
changed. -/
def Obligations.AtomicExchangeResults : Prop :=
  ∀ (z : AtomicSize) (dst src : Reg) (off : Off) (s : State) (base v : Word), dst.Valid → src.Valid →
    supports s.platform.groups z.group = true → s.reg dst = some base → s.reg src = some v →
    AccessAllowed s.platform (effectiveAddress base off) z.bytes .atomic →
      let addr := effectiveAddress base off
      let old := hostValue s.platform.endian (bytesAt s addr z.bytes)
      ∃ t, exec (z.xchg dst src off) s = .next t ∧
        ExchangeResult s t addr (hostBytes s.platform.endian z.bytes v.toNat) src (BitVec.ofNat 64 old) (s.pc + 1)

/-- O43 (R391, R392, R393, R403, R413). ATOMIC_W_STX_CMPXCHG and ATOMIC_DW_STX_CMPXCHG: with valid registers, r0 and
the named registers holding values, the group supported and the access performed, the answer is a next state in
which the bytes at base plus offset are the low bytes of src where the old value equals the low bytes of r0, and
the old bytes where it does not; r0 holds the old value zero-extended; pc is one further; nothing else changed. -/
def Obligations.AtomicCompareResults : Prop :=
  ∀ (z : AtomicSize) (dst src : Reg) (off : Off) (s : State) (base v : Word), dst.Valid → src.Valid →
    supports s.platform.groups z.group = true → s.reg dst = some base → s.reg src = some v →
    AccessAllowed s.platform (effectiveAddress base off) z.bytes .atomic →
      let addr := effectiveAddress base off
      let old := hostValue s.platform.endian (bytesAt s addr z.bytes)
      ∀ r0, s.reg 0 = some r0 → ∃ t, exec (z.cmpxchg dst src off) s = .next t ∧
        ExchangeResult s t addr
          (hostBytes s.platform.endian z.bytes (if old = r0.toNat % 256 ^ z.bytes then v.toNat else old)) 0
          (BitVec.ofNat 64 old) (s.pc + 1)

/-- O44 (R432, R430). With dst valid and base64 supported, IMM_DW_LD_IMM64 answers a next state in which dst holds
next_imm * 2^32 + imm, both read as unsigned 32-bit numbers, pc is two slots further, and nothing else changed. -/
def Obligations.ImmediateLoad64 : Prop :=
  ∀ (dst : Reg) (imm nextImm : Imm) (s : State), dst.Valid → supports s.platform.groups .base64 = true →
    ∃ t, exec (.immDwLdImm64 dst imm nextImm) s = .next t ∧
      RegisterResult s t dst (BitVec.ofNat 64 (nextImm.toNat * 2 ^ 32 + imm.toNat)) (s.pc + 2)

/-- O45 (R433, R434, R435, R436, R437, R438, log 8). With dst valid and base64 supported: IMM_DW_LD_MAPFD, MAPIDX,
VARADDR and CODEADDR, where the platform function gives a for the immediate (CODEADDR: for pc and the
immediate), answer a next state with a in dst; MAPFD_VAL and MAPIDX_VAL, where it gives a map and map_val gives
a for that map, with a plus the signed next_imm modulo 2^64; pc is two slots further and nothing else changed.
That a function is a table, and that an open table gives a free value for every key it does not list, is the
model's choice (log 8). -/
def Obligations.PlatformAddressResults : Prop :=
  ∀ (dst : Reg) (imm nextImm : Imm) (s : State) (a : Word), dst.Valid → supports s.platform.groups .base64 = true →
    (TableGives s.platform.mapByFd Config.mapByFd imm a → (∃ t, exec (.immDwLdMapfd dst imm) s = .next t ∧
      RegisterResult s t dst a (s.pc + 2)) ∧ ∀ b, TableGives s.platform.mapVal Config.mapVal a b →
        ∃ t, exec (.immDwLdMapfdVal dst imm nextImm) s = .next t ∧
          RegisterResult s t dst (BitVec.ofInt 64 (b.toInt + nextImm.toInt)) (s.pc + 2)) ∧
    (TableGives s.platform.mapByIdx Config.mapByIdx imm a → (∃ t, exec (.immDwLdMapidx dst imm) s = .next t ∧
      RegisterResult s t dst a (s.pc + 2)) ∧ ∀ b, TableGives s.platform.mapVal Config.mapVal a b →
        ∃ t, exec (.immDwLdMapidxVal dst imm nextImm) s = .next t ∧
          RegisterResult s t dst (BitVec.ofInt 64 (b.toInt + nextImm.toInt)) (s.pc + 2)) ∧
    (TableGives s.platform.varAddr Config.varAddr imm a → ∃ t, exec (.immDwLdVaraddr dst imm) s = .next t ∧
      RegisterResult s t dst a (s.pc + 2)) ∧
    (TableGives s.platform.codeAddr Config.codeAddr (s.pc, imm) a → ∃ t, exec (.immDwLdCodeaddr dst imm) s = .next t ∧
      RegisterResult s t dst a (s.pc + 2))

/-- O46 (R469, R433, R434, R435, R436, R437, R438, log 8). With dst valid and base64 supported: MAPFD (1), MAPFD_VAL
(2), VARADDR (3), CODEADDR (4), MAPIDX (5) and MAPIDX_VAL (6) are the fault PlatformLookup(subtype, imm) where
the platform function is absent for the immediate, and the two VAL forms also where map_val is absent for the
map. That a function is a table, absent for a key that it does not list unless it is open, is the model's choice
(log 8). -/
def Obligations.PlatformLookupFaults : Prop :=
  ∀ (dst : Reg) (imm nextImm : Imm) (s : State), dst.Valid → supports s.platform.groups .base64 = true →
    (TableAbsent s.platform.mapByFd imm →
      exec (.immDwLdMapfd dst imm) s = .fault (.platformLookup 1 imm) ∧
      exec (.immDwLdMapfdVal dst imm nextImm) s = .fault (.platformLookup 2 imm)) ∧
    (∀ m, TableGives s.platform.mapByFd Config.mapByFd imm m → TableAbsent s.platform.mapVal m →
      exec (.immDwLdMapfdVal dst imm nextImm) s = .fault (.platformLookup 2 imm)) ∧
    (TableAbsent s.platform.varAddr imm → exec (.immDwLdVaraddr dst imm) s = .fault (.platformLookup 3 imm)) ∧
    (TableAbsent s.platform.codeAddr (s.pc, imm) →
      exec (.immDwLdCodeaddr dst imm) s = .fault (.platformLookup 4 imm)) ∧
    (TableAbsent s.platform.mapByIdx imm →
      exec (.immDwLdMapidx dst imm) s = .fault (.platformLookup 5 imm) ∧
      exec (.immDwLdMapidxVal dst imm nextImm) s = .fault (.platformLookup 6 imm)) ∧
    (∀ m, TableGives s.platform.mapByIdx Config.mapByIdx imm m → TableAbsent s.platform.mapVal m →
      exec (.immDwLdMapidxVal dst imm nextImm) s = .fault (.platformLookup 6 imm))

/-- O47 (R431, R450, R463, R471, log 17, log 19). ABS_W_LD, ABS_H_LD, ABS_B_LD, IND_W_LD, IND_H_LD and IND_B_LD are
the refusal Refused(packet) in every state, whether or not packet is supported; IMM_NEXT executed as an
instruction is the fault IllegalInstruction(pc) in every state. No fetch reaches it, since in instruction
position its slot matches no row: that its execution, which no run shows, is that fault is the model's choice
(log 17). And that the refusal comes before any check of group or register its reading of R450 (log 19). -/
def Obligations.StopsOnEveryPath : Prop :=
  ∀ (src : Reg) (imm : Imm) (s : State),
    exec (.absWLd imm) s = .refused .packet ∧ exec (.absHLd imm) s = .refused .packet ∧
      exec (.absBLd imm) s = .refused .packet ∧ exec (.indWLd src imm) s = .refused .packet ∧
      exec (.indHLd src imm) s = .refused .packet ∧ exec (.indBLd src imm) s = .refused .packet ∧
      exec (.immNext imm) s = .fault (.illegalInstruction s.pc)

/-- O48 (R34, R462, R463, R466, log 16, log 22). For every instruction outside the packet group: if it names a
register above 10 it is the fault IllegalInstruction(pc) in every state; if it is well-formed, is not IMM_NEXT
and its group is not supported, it is the fault UnsupportedGroup of that group, whatever the registers hold.
That these checks stand in the execution of an instruction as well as before it is the model's choice (logs 16
and 22). -/
def Obligations.ChecksBeforeExecution : Prop :=
  ∀ (i : Instr) (s : State), groupOf i ≠ .packet →
    (¬ i.WellFormed → exec i s = .fault (.illegalInstruction s.pc)) ∧
    (i.WellFormed → (∀ next, i ≠ .immNext next) → supports s.platform.groups (groupOf i) = false →
      exec i s = .fault (.unsupportedGroup (groupOf i)))

/-- O49 (R3, R9, R466, log 21). On every platform: base32 is supported; base64, atomic64, divmul64 and packet are
supported exactly where they are declared; atomic32 exactly where atomic32 or atomic64 is declared, and divmul32
exactly where divmul32 or divmul64 is. That the model takes the closure of what a platform declares is its
reading of R9 (log 21). -/
def Obligations.GroupClosure : Prop :=
  ∀ gs : Groups, supports gs .base32 = true ∧ (supports gs .base64 = true ↔ gs.base64 = true) ∧
    (supports gs .atomic32 = true ↔ gs.atomic32 = true ∨ gs.atomic64 = true) ∧
    (supports gs .atomic64 = true ↔ gs.atomic64 = true) ∧
    (supports gs .divmul32 = true ↔ gs.divmul32 = true ∨ gs.divmul64 = true) ∧
    (supports gs .divmul64 = true ↔ gs.divmul64 = true) ∧ (supports gs .packet = true ↔ gs.packet = true)

/-- O50 (R35, R467, R474, R33). For every well-formed instruction whose group is supported: if r is one of the
registers it reads and holds no value, and every register that it reads before r holds one, then it is the fault
UninitRegister(r). -/
def Obligations.UninitRegisterFaults : Prop :=
  ∀ (i : Instr) (s : State) (r : Reg) (before after : List Reg), i.WellFormed →
    supports s.platform.groups (groupOf i) = true → readsOf i = before ++ r :: after →
    (∀ q ∈ before, s.reg q ≠ none) → s.reg r = none → exec i s = .fault (.uninitRegister r)

/-- O51 (R33, R344, R345). For every instruction that answers a next state: every register outside the list of what
the instruction may write (dst; src or r0 for fetching atomics; r6 to r10 for the program-local call, r1 to r10
for EXIT, every register for a helper call; none for jumps and plain stores) holds what it held. -/
def Obligations.RegisterFrame : Prop :=
  ∀ (i : Instr) (s t : State), exec i s = .next t → ∀ r, r ∉ writesOf i → t.reg r = s.reg r

/-- O52 (R62, R69, R70). For every instruction other than the two helper calls that answers a next state: every byte
that is not one of the bytes of its store or atomic, at base plus offset as its meaning computes it, reads as it
read; an instruction that stores nothing changes no byte. -/
def Obligations.MemoryFrame : Prop :=
  ∀ (i : Instr) (s t : State), exec i s = .next t → isHelperCall i = false →
    ∀ a, ¬ StoresTo i s a → byteAt t a = byteAt s a

/-- O53 (R50, R51, R53, R76, log 29). For every instruction that answers a next state: the program, the platform and
the coming stores of the environment are unchanged; the status is unchanged unless it is EXIT; the call stack,
and the model's record of the stacks in use (log 29), are unchanged unless it is EXIT or the program-local call;
the acts of the helpers are unchanged unless it is a helper call. -/
def Obligations.RestFrame : Prop :=
  ∀ (i : Instr) (s t : State), exec i s = .next t →
    t.program = s.program ∧ t.platform = s.platform ∧ t.interference = s.interference ∧
      (i ≠ .exitKJmp → t.status = s.status) ∧
      (i ≠ .exitKJmp → (∀ imm, i ≠ .callKJmpLocal imm) → t.calls = s.calls ∧ t.stackTops = s.stackTops) ∧
      (isHelperCall i = false → t.helperActs = s.helperActs)

/-- O54 (R41, R43, R280, log 14). For every instruction that answers a next state: pc is past its own slots, or at
next_pc plus its constant displacement (jumps and the program-local call), or, for EXIT only, at the return slot
of the newest frame, or where it was where the run ends, which is the model's choice (log 14). -/
def Obligations.PcMovesByText : Prop :=
  ∀ (i : Instr) (s t : State), exec i s = .next t →
    t.pc = s.pc + slotsOf i ∨ (∃ d, displacement i = some d ∧ t.pc = s.pc + 1 + d) ∨
      (i = .exitKJmp ∧ ((s.calls = [] ∧ t.pc = s.pc) ∨ ∃ f rest, s.calls = f :: rest ∧ t.pc = f.ret))

/-- O55 (R48, R62, R72, log 7). For every state whose memory lists addresses strictly rising and below 2^64: if the
step answers a next state, its memory is in that form too, whatever the program, the environment and the helpers
do. The form itself is the model's choice (log 7). -/
def Obligations.StepKeepsMemoryCanonical : Prop :=
  ∀ s t : State, Memory.wf s.mem → step s = .next t → Memory.wf t.mem

/-- O56 (R341, R346, R51, log 20). For every state whose active frames are all of the form its calling convention
pushes and no more than MAX_CALL_DEPTH allows: if the step answers a next state, so are those of that state.
That frames keep the form in which they were pushed is the model's choice (log 20). -/
def Obligations.StepKeepsCallsLegal : Prop :=
  ∀ s t : State, CallsLegal s → step s = .next t → CallsLegal t

/-- O57 (R52, log 5, log 7, log 29). After reset memory is in its canonical form, the call stack is legal and no two
stacks in use meet: the invariants that every step keeps hold at the start. The form of memory (log 7), the
record of the stacks in use (log 29) and the platform of that state (log 5) are the model's choice. -/
def Obligations.ResetMeetsInvariants : Prop :=
  Memory.wf State.reset.mem ∧ CallsLegal State.reset ∧ StacksApart State.reset

/-- O58 (R52, R500, log 3, log 5, log 18, log 29). For every platform, program, entry registers, memory and inputs:
the start state has pc 0, no frame, is running, holds the entry registers and the memory given, and has no
program, platform or input other than those given; the one stack in use is that of the entry function, below its
r10 (the model's record, log 29); and the state after reset is such a start state. Its platform, its registers
and its empty program are the model's choice (logs 3, 5 and 18). -/
def Obligations.LaunchState : Prop :=
  (∀ (p : Platform) (prog : List Slot) (entry : Vector (Option Word) 11) (m : Memory) (env : List (List Host.Cell))
    (acts : List HelperAct), let s := State.launch p prog entry m env acts
    s.pc = 0 ∧ s.calls = [] ∧ s.status = .running ∧ s.regs = entry ∧ s.mem = m ∧ s.program = prog ∧ s.platform = p ∧
      s.interference = env ∧ s.helperActs = acts ∧ s.stackTops = entry[10].toList) ∧
  State.reset = State.launch resetPlatform [] resetRegs [] [] []

/-- O59 (R72, R480, log 12, log 25). What happens before a step by the environment: a byte of a private region, and
a byte of no shared region, reads as it read; the registers, pc, the call stack, the status, the program, the
platform, the coming acts of the helpers, the stacks in use and the counter of free values are unchanged, and of
the coming stores the first entry is gone; and for every byte of a shared region that is in no private one, and
every value, there is an input that puts that value there. That the environment's stores come as a list, one
entry for each step, is the model's choice (log 12), and so is that a private region wins where regions overlap
(log 25). -/
def Obligations.EnvironmentStores : Prop :=
  ∀ s : State,
    (∀ a, PrivateByte s.platform a ∨ ¬ SharedByte s.platform a → byteAt s.interfere a = byteAt s a) ∧
    OnlyEnvironmentActed s s.interfere ∧
    (∀ (a : Word) (b : Byte), SharedByte s.platform a → ¬ PrivateByte s.platform a →
      byteAt (s.setInterference [[(a.toNat, b)]]).interfere a = b)

/-- O60 (R502, R503, R462, log 24). For every state whose program has passed the load check and whose pc and return
slots are entries of the program or its end: if the step answers a next state, it is such a state again; the
step is never refused and never the fault IllegalInstruction, JumpIntoWide or UnsupportedGroup; and it is
PcOutOfRange only at the end of the program. That the load check stands beside the step, and what it asks of
jumps and calls, is the model's choice (log 24). -/
def Obligations.LoadedProgramsRunLegally : Prop :=
  ∀ s : State, Loaded s →
    (∀ t, step s = .next t → Loaded t) ∧ (∀ r, step s ≠ .refused r) ∧
    ∀ f, step s = .fault f →
      (∀ p, f ≠ .illegalInstruction p) ∧ (∀ p, f ≠ .jumpIntoWide p) ∧ (∀ g, f ≠ .unsupportedGroup g) ∧
        ∀ p, f = .pcOutOfRange p → p = s.program.length

end
end

