-- ==== Sys2Proof/Laws/Decode.lean ====
section
/-! SUPPORT. Slots and fields are two views of the same 64 bits on either host (30_encoding.md R96), and the small lemmas of the
decoder's checks. -/

namespace Sys2Proof

/-- The fields of the slot that holds given fields are those fields. -/
@[simp] theorem Slot.fields_slot (e : Endian) (f : Fields) : (f.slot e).fields e = f := by
  obtain ⟨op, d, s, off, imm⟩ := f
  cases e
  all_goals
    simp only [Fields.slot, Slot.fields, Fields.mk.injEq, true_and]
    refine ⟨?_, ?_, ?_, ?_⟩ <;> (ext i hi; simp; try grind)

/-- The slot that holds the fields of a slot is that slot: no bit of a slot is outside its fields. -/
@[simp] theorem Fields.slot_fields (e : Endian) (s : Slot) : (s.fields e).slot e = s := by
  obtain ⟨b0, b1, b2, b3, b4, b5, b6, b7⟩ := s
  cases e
  all_goals
    simp only [Fields.slot, Slot.fields, Slot.mk.injEq, true_and]
    refine ⟨?_, ?_, ?_, ?_, ?_, ?_, ?_⟩ <;> (ext i hi; simp; try grind)

@[simp] theorem Fields.slot_b0 (e : Endian) (f : Fields) : (f.slot e).b0 = f.opcode := by cases e <;> rfl

@[simp] theorem Slot.fields_opcode (e : Endian) (s : Slot) : (s.fields e).opcode = s.b0 := by cases e <;> rfl

/-- Taking the first slot of a slot's bytes and more gives that slot and the rest. -/
@[simp] theorem takeSlot_bytes (s : Slot) (rest : List Byte) : takeSlot (s.bytes ++ rest) = some (s, rest) := rfl

/-- Bytes from which a slot was taken are that slot's bytes and the rest. -/
theorem takeSlot_eq_some {bytes rest : List Byte} {s : Slot} (h : takeSlot bytes = some (s, rest)) :
    bytes = s.bytes ++ rest := by
  unfold takeSlot at h
  split at h
  · obtain ⟨rfl, rfl⟩ := Prod.mk.inj (Option.some.inj h)
    rfl
  · cases h

/-- A check that was passed: its condition holds, and what follows answered. -/
theorem demand_eq_ok {c : Bool} {e : DecodeError} {k : Decoded} {i : Instr} :
    demand c e k = .ok i ↔ c = true ∧ k = .ok i := by
  cases c <;> simp [demand]

/-- In instruction position a row is matched as the table's: opcode 0x00 apart, the two ways of decoding are one (30_encoding.md R110). -/
theorem decodeRow_of_ne {f : Fields} {second : Option Fields} (h : f.opcode ≠ 0) : decodeRow f second = decodeFields f second :=
  if_neg h

/-- In instruction position a slot with opcode 0x00 matches no row (30_encoding.md R98, R110). -/
theorem decodeFields_zero {f : Fields} {second : Option Fields} (h : f.opcode = 0) :
    decodeFields f second = .error (.unassignedOpcode 0) := by
  simp [decodeFields, decodeLd, h]

@[simp] theorem Reg.ok_iff (r : Reg) : r.ok = true ↔ r.toNat ≤ 10 := by simp [Reg.ok]

end Sys2Proof
end

