-- ==== Sys2Proof/Laws/State.lean ====
section
/-! SUPPORT. What each update of the state does to each field: one lemma for every field of every update, so that no later proof
unfolds an update. -/

namespace Sys2Proof.Machine

@[simp] theorem State.setRegs_regs (s : State) (v : Vector (Option Word) 11) : (s.setRegs v).regs = v := rfl
@[simp] theorem State.setRegs_pc (s : State) (v : Vector (Option Word) 11) : (s.setRegs v).pc = s.pc := rfl
@[simp] theorem State.setRegs_calls (s : State) (v : Vector (Option Word) 11) : (s.setRegs v).calls = s.calls := rfl
@[simp] theorem State.setRegs_mem (s : State) (v : Vector (Option Word) 11) : (s.setRegs v).mem = s.mem := rfl
@[simp] theorem State.setRegs_status (s : State) (v : Vector (Option Word) 11) : (s.setRegs v).status = s.status := rfl
@[simp] theorem State.setRegs_program (s : State) (v : Vector (Option Word) 11) : (s.setRegs v).program = s.program := rfl
@[simp] theorem State.setRegs_platform (s : State) (v : Vector (Option Word) 11) : (s.setRegs v).platform = s.platform := rfl
@[simp] theorem State.setRegs_interference (s : State) (v : Vector (Option Word) 11) : (s.setRegs v).interference = s.interference := rfl
@[simp] theorem State.setRegs_helperActs (s : State) (v : Vector (Option Word) 11) : (s.setRegs v).helperActs = s.helperActs := rfl
@[simp] theorem State.setRegs_stackTops (s : State) (v : Vector (Option Word) 11) : (s.setRegs v).stackTops = s.stackTops := rfl
@[simp] theorem State.setRegs_freeIdx (s : State) (v : Vector (Option Word) 11) : (s.setRegs v).freeIdx = s.freeIdx := rfl

@[simp] theorem State.setPc_regs (s : State) (v : Int) : (s.setPc v).regs = s.regs := rfl
@[simp] theorem State.setPc_pc (s : State) (v : Int) : (s.setPc v).pc = v := rfl
@[simp] theorem State.setPc_calls (s : State) (v : Int) : (s.setPc v).calls = s.calls := rfl
@[simp] theorem State.setPc_mem (s : State) (v : Int) : (s.setPc v).mem = s.mem := rfl
@[simp] theorem State.setPc_status (s : State) (v : Int) : (s.setPc v).status = s.status := rfl
@[simp] theorem State.setPc_program (s : State) (v : Int) : (s.setPc v).program = s.program := rfl
@[simp] theorem State.setPc_platform (s : State) (v : Int) : (s.setPc v).platform = s.platform := rfl
@[simp] theorem State.setPc_interference (s : State) (v : Int) : (s.setPc v).interference = s.interference := rfl
@[simp] theorem State.setPc_helperActs (s : State) (v : Int) : (s.setPc v).helperActs = s.helperActs := rfl
@[simp] theorem State.setPc_stackTops (s : State) (v : Int) : (s.setPc v).stackTops = s.stackTops := rfl
@[simp] theorem State.setPc_freeIdx (s : State) (v : Int) : (s.setPc v).freeIdx = s.freeIdx := rfl

@[simp] theorem State.setCalls_regs (s : State) (v : List Frame) : (s.setCalls v).regs = s.regs := rfl
@[simp] theorem State.setCalls_pc (s : State) (v : List Frame) : (s.setCalls v).pc = s.pc := rfl
@[simp] theorem State.setCalls_calls (s : State) (v : List Frame) : (s.setCalls v).calls = v := rfl
@[simp] theorem State.setCalls_mem (s : State) (v : List Frame) : (s.setCalls v).mem = s.mem := rfl
@[simp] theorem State.setCalls_status (s : State) (v : List Frame) : (s.setCalls v).status = s.status := rfl
@[simp] theorem State.setCalls_program (s : State) (v : List Frame) : (s.setCalls v).program = s.program := rfl
@[simp] theorem State.setCalls_platform (s : State) (v : List Frame) : (s.setCalls v).platform = s.platform := rfl
@[simp] theorem State.setCalls_interference (s : State) (v : List Frame) : (s.setCalls v).interference = s.interference := rfl
@[simp] theorem State.setCalls_helperActs (s : State) (v : List Frame) : (s.setCalls v).helperActs = s.helperActs := rfl
@[simp] theorem State.setCalls_stackTops (s : State) (v : List Frame) : (s.setCalls v).stackTops = s.stackTops := rfl
@[simp] theorem State.setCalls_freeIdx (s : State) (v : List Frame) : (s.setCalls v).freeIdx = s.freeIdx := rfl

@[simp] theorem State.setMem_regs (s : State) (v : Memory) : (s.setMem v).regs = s.regs := rfl
@[simp] theorem State.setMem_pc (s : State) (v : Memory) : (s.setMem v).pc = s.pc := rfl
@[simp] theorem State.setMem_calls (s : State) (v : Memory) : (s.setMem v).calls = s.calls := rfl
@[simp] theorem State.setMem_mem (s : State) (v : Memory) : (s.setMem v).mem = v := rfl
@[simp] theorem State.setMem_status (s : State) (v : Memory) : (s.setMem v).status = s.status := rfl
@[simp] theorem State.setMem_program (s : State) (v : Memory) : (s.setMem v).program = s.program := rfl
@[simp] theorem State.setMem_platform (s : State) (v : Memory) : (s.setMem v).platform = s.platform := rfl
@[simp] theorem State.setMem_interference (s : State) (v : Memory) : (s.setMem v).interference = s.interference := rfl
@[simp] theorem State.setMem_helperActs (s : State) (v : Memory) : (s.setMem v).helperActs = s.helperActs := rfl
@[simp] theorem State.setMem_stackTops (s : State) (v : Memory) : (s.setMem v).stackTops = s.stackTops := rfl
@[simp] theorem State.setMem_freeIdx (s : State) (v : Memory) : (s.setMem v).freeIdx = s.freeIdx := rfl

@[simp] theorem State.setStatus_regs (s : State) (v : RunStatus) : (s.setStatus v).regs = s.regs := rfl
@[simp] theorem State.setStatus_pc (s : State) (v : RunStatus) : (s.setStatus v).pc = s.pc := rfl
@[simp] theorem State.setStatus_calls (s : State) (v : RunStatus) : (s.setStatus v).calls = s.calls := rfl
@[simp] theorem State.setStatus_mem (s : State) (v : RunStatus) : (s.setStatus v).mem = s.mem := rfl
@[simp] theorem State.setStatus_status (s : State) (v : RunStatus) : (s.setStatus v).status = v := rfl
@[simp] theorem State.setStatus_program (s : State) (v : RunStatus) : (s.setStatus v).program = s.program := rfl
@[simp] theorem State.setStatus_platform (s : State) (v : RunStatus) : (s.setStatus v).platform = s.platform := rfl
@[simp] theorem State.setStatus_interference (s : State) (v : RunStatus) : (s.setStatus v).interference = s.interference := rfl
@[simp] theorem State.setStatus_helperActs (s : State) (v : RunStatus) : (s.setStatus v).helperActs = s.helperActs := rfl
@[simp] theorem State.setStatus_stackTops (s : State) (v : RunStatus) : (s.setStatus v).stackTops = s.stackTops := rfl
@[simp] theorem State.setStatus_freeIdx (s : State) (v : RunStatus) : (s.setStatus v).freeIdx = s.freeIdx := rfl

@[simp] theorem State.setInterference_regs (s : State) (v : List (List Host.Cell)) : (s.setInterference v).regs = s.regs := rfl
@[simp] theorem State.setInterference_pc (s : State) (v : List (List Host.Cell)) : (s.setInterference v).pc = s.pc := rfl
@[simp] theorem State.setInterference_calls (s : State) (v : List (List Host.Cell)) : (s.setInterference v).calls = s.calls := rfl
@[simp] theorem State.setInterference_mem (s : State) (v : List (List Host.Cell)) : (s.setInterference v).mem = s.mem := rfl
@[simp] theorem State.setInterference_status (s : State) (v : List (List Host.Cell)) : (s.setInterference v).status = s.status := rfl
@[simp] theorem State.setInterference_program (s : State) (v : List (List Host.Cell)) : (s.setInterference v).program = s.program := rfl
@[simp] theorem State.setInterference_platform (s : State) (v : List (List Host.Cell)) : (s.setInterference v).platform = s.platform := rfl
@[simp] theorem State.setInterference_interference (s : State) (v : List (List Host.Cell)) : (s.setInterference v).interference = v := rfl
@[simp] theorem State.setInterference_helperActs (s : State) (v : List (List Host.Cell)) : (s.setInterference v).helperActs = s.helperActs := rfl
@[simp] theorem State.setInterference_stackTops (s : State) (v : List (List Host.Cell)) : (s.setInterference v).stackTops = s.stackTops := rfl
@[simp] theorem State.setInterference_freeIdx (s : State) (v : List (List Host.Cell)) : (s.setInterference v).freeIdx = s.freeIdx := rfl

@[simp] theorem State.setHelperActs_regs (s : State) (v : List HelperAct) : (s.setHelperActs v).regs = s.regs := rfl
@[simp] theorem State.setHelperActs_pc (s : State) (v : List HelperAct) : (s.setHelperActs v).pc = s.pc := rfl
@[simp] theorem State.setHelperActs_calls (s : State) (v : List HelperAct) : (s.setHelperActs v).calls = s.calls := rfl
@[simp] theorem State.setHelperActs_mem (s : State) (v : List HelperAct) : (s.setHelperActs v).mem = s.mem := rfl
@[simp] theorem State.setHelperActs_status (s : State) (v : List HelperAct) : (s.setHelperActs v).status = s.status := rfl
@[simp] theorem State.setHelperActs_program (s : State) (v : List HelperAct) : (s.setHelperActs v).program = s.program := rfl
@[simp] theorem State.setHelperActs_platform (s : State) (v : List HelperAct) : (s.setHelperActs v).platform = s.platform := rfl
@[simp] theorem State.setHelperActs_interference (s : State) (v : List HelperAct) : (s.setHelperActs v).interference = s.interference := rfl
@[simp] theorem State.setHelperActs_helperActs (s : State) (v : List HelperAct) : (s.setHelperActs v).helperActs = v := rfl
@[simp] theorem State.setHelperActs_stackTops (s : State) (v : List HelperAct) : (s.setHelperActs v).stackTops = s.stackTops := rfl
@[simp] theorem State.setHelperActs_freeIdx (s : State) (v : List HelperAct) : (s.setHelperActs v).freeIdx = s.freeIdx := rfl

@[simp] theorem State.setStackTops_regs (s : State) (v : List Word) : (s.setStackTops v).regs = s.regs := rfl
@[simp] theorem State.setStackTops_pc (s : State) (v : List Word) : (s.setStackTops v).pc = s.pc := rfl
@[simp] theorem State.setStackTops_calls (s : State) (v : List Word) : (s.setStackTops v).calls = s.calls := rfl
@[simp] theorem State.setStackTops_mem (s : State) (v : List Word) : (s.setStackTops v).mem = s.mem := rfl
@[simp] theorem State.setStackTops_status (s : State) (v : List Word) : (s.setStackTops v).status = s.status := rfl
@[simp] theorem State.setStackTops_program (s : State) (v : List Word) : (s.setStackTops v).program = s.program := rfl
@[simp] theorem State.setStackTops_platform (s : State) (v : List Word) : (s.setStackTops v).platform = s.platform := rfl
@[simp] theorem State.setStackTops_interference (s : State) (v : List Word) : (s.setStackTops v).interference = s.interference := rfl
@[simp] theorem State.setStackTops_helperActs (s : State) (v : List Word) : (s.setStackTops v).helperActs = s.helperActs := rfl
@[simp] theorem State.setStackTops_stackTops (s : State) (v : List Word) : (s.setStackTops v).stackTops = v := rfl
@[simp] theorem State.setStackTops_freeIdx (s : State) (v : List Word) : (s.setStackTops v).freeIdx = s.freeIdx := rfl

@[simp] theorem State.setFreeIdx_regs (s : State) (v : Nat) : (s.setFreeIdx v).regs = s.regs := rfl
@[simp] theorem State.setFreeIdx_pc (s : State) (v : Nat) : (s.setFreeIdx v).pc = s.pc := rfl
@[simp] theorem State.setFreeIdx_calls (s : State) (v : Nat) : (s.setFreeIdx v).calls = s.calls := rfl
@[simp] theorem State.setFreeIdx_mem (s : State) (v : Nat) : (s.setFreeIdx v).mem = s.mem := rfl
@[simp] theorem State.setFreeIdx_status (s : State) (v : Nat) : (s.setFreeIdx v).status = s.status := rfl
@[simp] theorem State.setFreeIdx_program (s : State) (v : Nat) : (s.setFreeIdx v).program = s.program := rfl
@[simp] theorem State.setFreeIdx_platform (s : State) (v : Nat) : (s.setFreeIdx v).platform = s.platform := rfl
@[simp] theorem State.setFreeIdx_interference (s : State) (v : Nat) : (s.setFreeIdx v).interference = s.interference := rfl
@[simp] theorem State.setFreeIdx_helperActs (s : State) (v : Nat) : (s.setFreeIdx v).helperActs = s.helperActs := rfl
@[simp] theorem State.setFreeIdx_stackTops (s : State) (v : Nat) : (s.setFreeIdx v).stackTops = s.stackTops := rfl
@[simp] theorem State.setFreeIdx_freeIdx (s : State) (v : Nat) : (s.setFreeIdx v).freeIdx = v := rfl

@[simp] theorem State.writeReg_regs (s : State) (r : Reg) (v : Word) : (s.writeReg r v).regs = putReg s.regs r (some v) := rfl
@[simp] theorem State.writeReg_pc (s : State) (r : Reg) (v : Word) : (s.writeReg r v).pc = s.pc := rfl
@[simp] theorem State.writeReg_calls (s : State) (r : Reg) (v : Word) : (s.writeReg r v).calls = s.calls := rfl
@[simp] theorem State.writeReg_mem (s : State) (r : Reg) (v : Word) : (s.writeReg r v).mem = s.mem := rfl
@[simp] theorem State.writeReg_status (s : State) (r : Reg) (v : Word) : (s.writeReg r v).status = s.status := rfl
@[simp] theorem State.writeReg_program (s : State) (r : Reg) (v : Word) : (s.writeReg r v).program = s.program := rfl
@[simp] theorem State.writeReg_platform (s : State) (r : Reg) (v : Word) : (s.writeReg r v).platform = s.platform := rfl
@[simp] theorem State.writeReg_interference (s : State) (r : Reg) (v : Word) : (s.writeReg r v).interference = s.interference := rfl
@[simp] theorem State.writeReg_helperActs (s : State) (r : Reg) (v : Word) : (s.writeReg r v).helperActs = s.helperActs := rfl
@[simp] theorem State.writeReg_stackTops (s : State) (r : Reg) (v : Word) : (s.writeReg r v).stackTops = s.stackTops := rfl
@[simp] theorem State.writeReg_freeIdx (s : State) (r : Reg) (v : Word) : (s.writeReg r v).freeIdx = s.freeIdx := rfl

@[simp] theorem State.advance_regs (s : State) : (s.advance).regs = s.regs := rfl
@[simp] theorem State.advance_pc (s : State) : (s.advance).pc = s.pc + 1 := rfl
@[simp] theorem State.advance_calls (s : State) : (s.advance).calls = s.calls := rfl
@[simp] theorem State.advance_mem (s : State) : (s.advance).mem = s.mem := rfl
@[simp] theorem State.advance_status (s : State) : (s.advance).status = s.status := rfl
@[simp] theorem State.advance_program (s : State) : (s.advance).program = s.program := rfl
@[simp] theorem State.advance_platform (s : State) : (s.advance).platform = s.platform := rfl
@[simp] theorem State.advance_interference (s : State) : (s.advance).interference = s.interference := rfl
@[simp] theorem State.advance_helperActs (s : State) : (s.advance).helperActs = s.helperActs := rfl
@[simp] theorem State.advance_stackTops (s : State) : (s.advance).stackTops = s.stackTops := rfl
@[simp] theorem State.advance_freeIdx (s : State) : (s.advance).freeIdx = s.freeIdx := rfl

@[simp] theorem State.advanceWide_regs (s : State) : (s.advanceWide).regs = s.regs := rfl
@[simp] theorem State.advanceWide_pc (s : State) : (s.advanceWide).pc = s.pc + 2 := rfl
@[simp] theorem State.advanceWide_calls (s : State) : (s.advanceWide).calls = s.calls := rfl
@[simp] theorem State.advanceWide_mem (s : State) : (s.advanceWide).mem = s.mem := rfl
@[simp] theorem State.advanceWide_status (s : State) : (s.advanceWide).status = s.status := rfl
@[simp] theorem State.advanceWide_program (s : State) : (s.advanceWide).program = s.program := rfl
@[simp] theorem State.advanceWide_platform (s : State) : (s.advanceWide).platform = s.platform := rfl
@[simp] theorem State.advanceWide_interference (s : State) : (s.advanceWide).interference = s.interference := rfl
@[simp] theorem State.advanceWide_helperActs (s : State) : (s.advanceWide).helperActs = s.helperActs := rfl
@[simp] theorem State.advanceWide_stackTops (s : State) : (s.advanceWide).stackTops = s.stackTops := rfl
@[simp] theorem State.advanceWide_freeIdx (s : State) : (s.advanceWide).freeIdx = s.freeIdx := rfl

@[simp] theorem State.jump_regs (s : State) (d : Int) : (s.jump d).regs = s.regs := rfl
@[simp] theorem State.jump_pc (s : State) (d : Int) : (s.jump d).pc = s.pc + 1 + d := rfl
@[simp] theorem State.jump_calls (s : State) (d : Int) : (s.jump d).calls = s.calls := rfl
@[simp] theorem State.jump_mem (s : State) (d : Int) : (s.jump d).mem = s.mem := rfl
@[simp] theorem State.jump_status (s : State) (d : Int) : (s.jump d).status = s.status := rfl
@[simp] theorem State.jump_program (s : State) (d : Int) : (s.jump d).program = s.program := rfl
@[simp] theorem State.jump_platform (s : State) (d : Int) : (s.jump d).platform = s.platform := rfl
@[simp] theorem State.jump_interference (s : State) (d : Int) : (s.jump d).interference = s.interference := rfl
@[simp] theorem State.jump_helperActs (s : State) (d : Int) : (s.jump d).helperActs = s.helperActs := rfl
@[simp] theorem State.jump_stackTops (s : State) (d : Int) : (s.jump d).stackTops = s.stackTops := rfl
@[simp] theorem State.jump_freeIdx (s : State) (d : Int) : (s.jump d).freeIdx = s.freeIdx := rfl

@[simp] theorem State.finish_regs (s : State) (r : Reg) (v : Word) : (s.finish r v).regs = putReg s.regs r (some v) := rfl
@[simp] theorem State.finish_pc (s : State) (r : Reg) (v : Word) : (s.finish r v).pc = s.pc + 1 := rfl
@[simp] theorem State.finish_calls (s : State) (r : Reg) (v : Word) : (s.finish r v).calls = s.calls := rfl
@[simp] theorem State.finish_mem (s : State) (r : Reg) (v : Word) : (s.finish r v).mem = s.mem := rfl
@[simp] theorem State.finish_status (s : State) (r : Reg) (v : Word) : (s.finish r v).status = s.status := rfl
@[simp] theorem State.finish_program (s : State) (r : Reg) (v : Word) : (s.finish r v).program = s.program := rfl
@[simp] theorem State.finish_platform (s : State) (r : Reg) (v : Word) : (s.finish r v).platform = s.platform := rfl
@[simp] theorem State.finish_interference (s : State) (r : Reg) (v : Word) : (s.finish r v).interference = s.interference := rfl
@[simp] theorem State.finish_helperActs (s : State) (r : Reg) (v : Word) : (s.finish r v).helperActs = s.helperActs := rfl
@[simp] theorem State.finish_stackTops (s : State) (r : Reg) (v : Word) : (s.finish r v).stackTops = s.stackTops := rfl
@[simp] theorem State.finish_freeIdx (s : State) (r : Reg) (v : Word) : (s.finish r v).freeIdx = s.freeIdx := rfl

@[simp] theorem storeValue_regs (s : State) (a : Word) (n : Size) (v : Word) : (storeValue s a n v).regs = s.regs := rfl
@[simp] theorem storeValue_pc (s : State) (a : Word) (n : Size) (v : Word) : (storeValue s a n v).pc = s.pc := rfl
@[simp] theorem storeValue_calls (s : State) (a : Word) (n : Size) (v : Word) : (storeValue s a n v).calls = s.calls := rfl
@[simp] theorem storeValue_status (s : State) (a : Word) (n : Size) (v : Word) : (storeValue s a n v).status = s.status := rfl
@[simp] theorem storeValue_program (s : State) (a : Word) (n : Size) (v : Word) : (storeValue s a n v).program = s.program := rfl
@[simp] theorem storeValue_platform (s : State) (a : Word) (n : Size) (v : Word) : (storeValue s a n v).platform = s.platform := rfl
@[simp] theorem storeValue_interference (s : State) (a : Word) (n : Size) (v : Word) : (storeValue s a n v).interference = s.interference := rfl
@[simp] theorem storeValue_helperActs (s : State) (a : Word) (n : Size) (v : Word) : (storeValue s a n v).helperActs = s.helperActs := rfl
@[simp] theorem storeValue_stackTops (s : State) (a : Word) (n : Size) (v : Word) : (storeValue s a n v).stackTops = s.stackTops := rfl
@[simp] theorem storeValue_freeIdx (s : State) (a : Word) (n : Size) (v : Word) : (storeValue s a n v).freeIdx = s.freeIdx := rfl

@[simp] theorem storeValue_mem (s : State) (a : Word) (n : Size) (v : Word) :
    (storeValue s a n v).mem = Memory.store s.mem a (disassemble s.platform.endian n.bytes v) := rfl

@[simp] theorem State.helperReturn_pc (s : State) (x : Word) (l : List (Fin 11 × Word)) (w : List Host.Cell) :
    (s.helperReturn x l w).pc = s.pc := rfl
@[simp] theorem State.helperReturn_calls (s : State) (x : Word) (l : List (Fin 11 × Word)) (w : List Host.Cell) :
    (s.helperReturn x l w).calls = s.calls := rfl
@[simp] theorem State.helperReturn_status (s : State) (x : Word) (l : List (Fin 11 × Word)) (w : List Host.Cell) :
    (s.helperReturn x l w).status = s.status := rfl
@[simp] theorem State.helperReturn_program (s : State) (x : Word) (l : List (Fin 11 × Word)) (w : List Host.Cell) :
    (s.helperReturn x l w).program = s.program := rfl
@[simp] theorem State.helperReturn_platform (s : State) (x : Word) (l : List (Fin 11 × Word)) (w : List Host.Cell) :
    (s.helperReturn x l w).platform = s.platform := rfl
@[simp] theorem State.helperReturn_interference (s : State) (x : Word) (l : List (Fin 11 × Word)) (w : List Host.Cell) :
    (s.helperReturn x l w).interference = s.interference := rfl
@[simp] theorem State.helperReturn_helperActs (s : State) (x : Word) (l : List (Fin 11 × Word)) (w : List Host.Cell) :
    (s.helperReturn x l w).helperActs = s.helperActs := rfl
@[simp] theorem State.helperReturn_stackTops (s : State) (x : Word) (l : List (Fin 11 × Word)) (w : List Host.Cell) :
    (s.helperReturn x l w).stackTops = s.stackTops := rfl
@[simp] theorem State.helperReturn_freeIdx (s : State) (x : Word) (l : List (Fin 11 × Word)) (w : List Host.Cell) :
    (s.helperReturn x l w).freeIdx = s.freeIdx := rfl
@[simp] theorem State.helperReturn_regs (s : State) (x : Word) (l : List (Fin 11 × Word)) (w : List Host.Cell) :
    (s.helperReturn x l w).regs = helperRegs s.platform.callConv s.regs x l := rfl
@[simp] theorem State.helperReturn_mem (s : State) (x : Word) (l : List (Fin 11 × Word)) (w : List Host.Cell) :
    (s.helperReturn x l w).mem = Memory.storeCells s.mem (w.filter fun c => helperByte s.platform c.1) := rfl

@[simp] theorem State.enterCallee_pc (s : State) : s.enterCallee.pc = s.pc := by
  unfold State.enterCallee; split <;> rfl
@[simp] theorem State.enterCallee_calls (s : State) : s.enterCallee.calls = s.calls := by
  unfold State.enterCallee; split <;> rfl
@[simp] theorem State.enterCallee_mem (s : State) : s.enterCallee.mem = s.mem := by
  unfold State.enterCallee; split <;> rfl
@[simp] theorem State.enterCallee_status (s : State) : s.enterCallee.status = s.status := by
  unfold State.enterCallee; split <;> rfl
@[simp] theorem State.enterCallee_program (s : State) : s.enterCallee.program = s.program := by
  unfold State.enterCallee; split <;> rfl
@[simp] theorem State.enterCallee_platform (s : State) : s.enterCallee.platform = s.platform := by
  unfold State.enterCallee; split <;> rfl
@[simp] theorem State.enterCallee_interference (s : State) : s.enterCallee.interference = s.interference := by
  unfold State.enterCallee; split <;> rfl
@[simp] theorem State.enterCallee_helperActs (s : State) : s.enterCallee.helperActs = s.helperActs := by
  unfold State.enterCallee; split <;> rfl

@[simp] theorem State.interfere_regs (s : State) : s.interfere.regs = s.regs := by
  unfold State.interfere; split <;> rfl
@[simp] theorem State.interfere_pc (s : State) : s.interfere.pc = s.pc := by
  unfold State.interfere; split <;> rfl
@[simp] theorem State.interfere_calls (s : State) : s.interfere.calls = s.calls := by
  unfold State.interfere; split <;> rfl
@[simp] theorem State.interfere_status (s : State) : s.interfere.status = s.status := by
  unfold State.interfere; split <;> rfl
@[simp] theorem State.interfere_program (s : State) : s.interfere.program = s.program := by
  unfold State.interfere; split <;> rfl
@[simp] theorem State.interfere_platform (s : State) : s.interfere.platform = s.platform := by
  unfold State.interfere; split <;> rfl
@[simp] theorem State.interfere_helperActs (s : State) : s.interfere.helperActs = s.helperActs := by
  unfold State.interfere; split <;> rfl
@[simp] theorem State.interfere_stackTops (s : State) : s.interfere.stackTops = s.stackTops := by
  unfold State.interfere; split <;> rfl
@[simp] theorem State.interfere_freeIdx (s : State) : s.interfere.freeIdx = s.freeIdx := by
  unfold State.interfere; split <;> rfl

/-- `State.reg` looks only at the registers. -/
theorem State.reg_congr (s t : State) (r : Reg) (h : t.regs = s.regs) : t.reg r = s.reg r := by
  simp only [State.reg, h]

@[simp] theorem State.reg_setPc (s : State) (v : Int) (r : Reg) : (s.setPc v).reg r = s.reg r := rfl
@[simp] theorem State.reg_setCalls (s : State) (v : List Frame) (r : Reg) : (s.setCalls v).reg r = s.reg r := rfl
@[simp] theorem State.reg_setMem (s : State) (v : Memory) (r : Reg) : (s.setMem v).reg r = s.reg r := rfl
@[simp] theorem State.reg_setStatus (s : State) (v : RunStatus) (r : Reg) : (s.setStatus v).reg r = s.reg r := rfl
@[simp] theorem State.reg_setInterference (s : State) (v : List (List Host.Cell)) (r : Reg) : (s.setInterference v).reg r = s.reg r := rfl
@[simp] theorem State.reg_setHelperActs (s : State) (v : List HelperAct) (r : Reg) : (s.setHelperActs v).reg r = s.reg r := rfl
@[simp] theorem State.reg_setStackTops (s : State) (v : List Word) (r : Reg) : (s.setStackTops v).reg r = s.reg r := rfl
@[simp] theorem State.reg_setFreeIdx (s : State) (v : Nat) (r : Reg) : (s.setFreeIdx v).reg r = s.reg r := rfl
@[simp] theorem State.reg_advance (s : State) (r : Reg) : s.advance.reg r = s.reg r := rfl
@[simp] theorem State.reg_advanceWide (s : State) (r : Reg) : s.advanceWide.reg r = s.reg r := rfl
@[simp] theorem State.reg_jump (s : State) (d : Int) (r : Reg) : (s.jump d).reg r = s.reg r := rfl
@[simp] theorem State.reg_storeValue (s : State) (a : Word) (n : Size) (v : Word) (r : Reg) :
    (storeValue s a n v).reg r = s.reg r := rfl
@[simp] theorem State.reg_interfere (s : State) (r : Reg) : s.interfere.reg r = s.reg r :=
  State.reg_congr _ _ r (State.interfere_regs s)

/-- What a register holds after `putReg`: the new contents for the register itself, the old ones for every other. -/
theorem reg_setRegs_putReg (s : State) (r q : Reg) (v : Option Word) :
    (s.setRegs (putReg s.regs r v)).reg q = if q = r ∧ r.toNat < 11 then v else s.reg q := by
  simp only [State.reg, putReg, State.setRegs_regs]
  by_cases hr : r.toNat < 11
  · by_cases hq : q = r
    · subst hq; simp [hr]
    · have : r.toNat ≠ q.toNat := fun h => hq (BitVec.eq_of_toNat_eq h.symm)
      simp [hr, hq, this]
  · simp [hr]

/-- Reading a register after `x[r] <- v`. -/
theorem State.reg_writeReg (s : State) (r q : Reg) (v : Word) :
    (s.writeReg r v).reg q = if q = r ∧ r.toNat < 11 then some v else s.reg q :=
  reg_setRegs_putReg s r q (some v)

/-- Reading a register at the end of an instruction that writes `x[r]`. -/
theorem State.reg_finish (s : State) (r q : Reg) (v : Word) :
    (s.finish r v).reg q = if q = r ∧ r.toNat < 11 then some v else s.reg q :=
  State.reg_writeReg s r q v

end Sys2Proof.Machine
end

