-- ==== Sys2Proof/Laws/Memory.lean ====
section
/-! SUPPORT. The laws of data memory: a read after a write gives what was written and every other byte is as before; every
operation keeps the canonical form; assembling the bytes of a value gives its low bytes back. -/

namespace Sys2Proof.Machine

/-! ### One byte -/

theorem Memory.get?_set_self (m : Memory) (k : Nat) (b : Byte) : Memory.get? (Memory.set m k b) k = some b := by
  induction m with
  | nil => simp [Memory.set, Memory.get?]
  | cons c m ih =>
    obtain ⟨a, v⟩ := c
    simp only [Memory.set]
    split
    · simp [Memory.get?]
    · split
      · simp only [Memory.get?]
        rw [if_neg (by assumption), if_pos (by assumption), ih]
      · simp [Memory.get?]

theorem Memory.get?_set_of_ne (m : Memory) (k j : Nat) (b : Byte) (h : j ≠ k) :
    Memory.get? (Memory.set m k b) j = Memory.get? m j := by
  induction m with
  | nil => simp [Memory.set, Memory.get?, Ne.symm h]
  | cons c m ih =>
    obtain ⟨a, v⟩ := c
    simp only [Memory.set]
    split
    · rename_i hak
      subst hak
      simp only [Memory.get?, Ne.symm h, if_false]
    · split
      · simp only [Memory.get?, ih]
      · rename_i h1 h2
        simp only [Memory.get?, Ne.symm h, if_false]
        by_cases hkj : k < j
        · simp only [hkj, if_true]
        · have h3 : ¬ a < j := by omega
          have h4 : ¬ a = j := by omega
          simp [hkj, h3, h4]

/-- Reading a byte after one byte is written. -/
theorem Memory.get?_set (m : Memory) (k j : Nat) (b : Byte) :
    Memory.get? (Memory.set m k b) j = if j = k then some b else Memory.get? m j := by
  by_cases h : j = k
  · subst h; simp [Memory.get?_set_self]
  · simp [h, Memory.get?_set_of_ne]

/-! ### The canonical form -/

theorem Memory.mem_set (m : Memory) (k : Nat) (b : Byte) (c : Host.Cell) (h : c ∈ Memory.set m k b) :
    c = (k, b) ∨ c ∈ m := by
  induction m with
  | nil => simpa [Memory.set] using h
  | cons d m ih =>
    obtain ⟨a, v⟩ := d
    simp only [Memory.set] at h
    split at h
    · rcases List.mem_cons.mp h with h | h
      · exact .inl h
      · exact .inr (List.mem_cons_of_mem _ h)
    · split at h
      · rcases List.mem_cons.mp h with h | h
        · exact .inr (h ▸ List.mem_cons_self)
        · rcases ih h with h | h
          · exact .inl h
          · exact .inr (List.mem_cons_of_mem _ h)
      · rcases List.mem_cons.mp h with h | h
        · exact .inl h
        · exact .inr h

/-- Writing one byte keeps the canonical form. -/
theorem Memory.set_wf (m : Memory) (k : Nat) (b : Byte) (hm : Memory.wf m) (hk : k < 2 ^ 64) :
    Memory.wf (Memory.set m k b) := by
  refine ⟨?_, fun c hc => ?_⟩
  · have hs := hm.1
    clear hm
    induction m with
    | nil => simp [Memory.set]
    | cons d m ih =>
      obtain ⟨a, v⟩ := d
      obtain ⟨ha, hs⟩ := List.pairwise_cons.mp hs
      simp only [Memory.set]
      split
      · rename_i hak
        subst hak
        exact List.pairwise_cons.mpr ⟨ha, hs⟩
      · split
        · rename_i h
          refine List.pairwise_cons.mpr ⟨fun c hc => ?_, ih hs⟩
          rcases Memory.mem_set m k b c hc with rfl | hc
          · exact h
          · exact ha c hc
        · rename_i h1 h2
          have hka : k < a := by omega
          refine List.pairwise_cons.mpr ⟨fun c hc => ?_, List.pairwise_cons.mpr ⟨ha, hs⟩⟩
          rcases List.mem_cons.mp hc with rfl | hc
          · exact hka
          · exact Nat.lt_trans hka (ha c hc)
  · rcases Memory.mem_set m k b c hc with rfl | hc
    · exact hk
    · exact hm.2 c hc

/-- Storing the bytes of a value keeps the canonical form. -/
theorem Memory.store_wf (bs : List Byte) (m : Memory) (addr : Word) (hm : Memory.wf m) :
    Memory.wf (Memory.store m addr bs) := by
  induction bs generalizing m addr with
  | nil => exact hm
  | cons b bs ih => exact ih _ _ (Memory.set_wf m _ b hm addr.isLt)

/-- Storing cells keeps the canonical form, where their addresses exist. -/
theorem Memory.storeCells_wf (cs : List Host.Cell) (m : Memory) (hm : Memory.wf m) (hc : ∀ c ∈ cs, c.1 < 2 ^ 64) :
    Memory.wf (Memory.storeCells m cs) := by
  induction cs generalizing m with
  | nil => exact hm
  | cons c cs ih =>
    exact ih _ (Memory.set_wf m c.1 c.2 hm (hc c List.mem_cons_self)) fun d hd => hc d (List.mem_cons_of_mem _ hd)

/-! ### Storing several bytes -/

/-- An address outside the stored bytes reads as before. -/
theorem Memory.get?_store_outside (bs : List Byte) (m : Memory) (addr : Word) (j : Nat)
    (h : ∀ k < bs.length, (addr + BitVec.ofNat 64 k).toNat ≠ j) :
    Memory.get? (Memory.store m addr bs) j = Memory.get? m j := by
  induction bs generalizing m addr with
  | nil => rfl
  | cons b bs ih =>
    simp only [Memory.store]
    rw [ih]
    · exact Memory.get?_set_of_ne m _ j b fun hj => h 0 (by simp) (by simpa using hj.symm)
    · intro k hk
      have := h (k + 1) (by simpa using hk)
      rwa [show addr + BitVec.ofNat 64 (k + 1) = addr + 1 + BitVec.ofNat 64 k by
        rw [Nat.add_comm k 1, BitVec.ofNat_add, ← BitVec.add_assoc]; rfl] at this

/-- The `k`-th stored byte is read back, for at most 2^64 bytes. -/
theorem Memory.get?_store_inside (bs : List Byte) (m : Memory) (addr : Word) (k : Nat) (hk : k < bs.length)
    (hlen : bs.length ≤ 2 ^ 64) :
    Memory.get? (Memory.store m addr bs) (addr + BitVec.ofNat 64 k).toNat = some bs[k] := by
  induction bs generalizing m addr k with
  | nil => simp at hk
  | cons b bs ih =>
    have hshift (j : Nat) : addr + BitVec.ofNat 64 (j + 1) = addr + 1 + BitVec.ofNat 64 j := by
      rw [Nat.add_comm j 1, BitVec.ofNat_add, ← BitVec.add_assoc]; rfl
    simp only [List.length_cons] at hk hlen
    simp only [Memory.store]
    cases k with
    | zero =>
      rw [Memory.get?_store_outside]
      · simp [Memory.get?_set_self]
      · intro j hj heq
        have : (addr + 1 + BitVec.ofNat 64 j) = addr + BitVec.ofNat 64 0 := BitVec.eq_of_toNat_eq heq
        rw [← hshift j] at this
        have h0 : BitVec.ofNat 64 (j + 1) = BitVec.ofNat 64 0 := BitVec.add_right_inj addr |>.mp this
        have := congrArg BitVec.toNat h0
        simp only [BitVec.toNat_ofNat] at this
        omega
    | succ k =>
      rw [hshift k]
      exact ih _ _ k (by omega) (by omega)

/-- A byte outside the cells reads as before. -/
theorem Memory.get?_storeCells_outside (cs : List Host.Cell) (m : Memory) (j : Nat) (h : ∀ c ∈ cs, c.1 ≠ j) :
    Memory.get? (Memory.storeCells m cs) j = Memory.get? m j := by
  induction cs generalizing m with
  | nil => rfl
  | cons c cs ih =>
    obtain ⟨a, b⟩ := c
    simp only [Memory.storeCells]
    rw [ih _ fun d hd => h d (List.mem_cons_of_mem _ hd)]
    exact Memory.get?_set_of_ne m a j b fun hj => h (a, b) List.mem_cons_self hj.symm

/-! ### Values and bytes -/

@[simp] theorem leBytes_length (v : Word) (n : Nat) : (leBytes v n).length = n := by simp [leBytes]

@[simp] theorem leBytes_getElem (v : Word) (n k : Nat) (h : k < (leBytes v n).length) :
    (leBytes v n)[k] = v.extractLsb' (8 * k) 8 := by simp [leBytes]

@[simp] theorem disassemble_length (e : Endian) (n : Nat) (v : Word) : (disassemble e n v).length = n := by
  cases e <;> simp [disassemble]

/-- Which byte of the value each stored byte is (20_memory.md R62). -/
theorem disassemble_getElem (e : Endian) (n k : Nat) (v : Word) (h : k < (disassemble e n v).length) :
    (disassemble e n v)[k] = v.extractLsb' (8 * (if e = .little then k else n - 1 - k)) 8 := by
  cases e <;> simp [disassemble]

/-- Bit `i` of the value of a list of bytes is bit `i % 8` of byte `i / 8`. -/
theorem ofLeBytes_getLsbD (bs : List Byte) (i : Nat) (hi : i < 64) :
    (ofLeBytes bs).getLsbD i = (bs[i / 8]?.getD 0).getLsbD (i % 8) := by
  induction bs generalizing i with
  | nil => simp [ofLeBytes]
  | cons b bs ih =>
    by_cases h8 : i < 8
    · have h0 : i / 8 = 0 := by omega
      have hm : i % 8 = i := by omega
      simp [ofLeBytes, h8, h0, hm, hi]
    · have h1 : i / 8 = (i - 8) / 8 + 1 := by omega
      have hm : i % 8 = (i - 8) % 8 := by omega
      have hb : b.getLsbD i = false := BitVec.getLsbD_of_ge b i (by omega)
      have hr := ih (i - 8) (by omega)
      rw [ofLeBytes, BitVec.getLsbD_or, BitVec.getLsbD_setWidth, BitVec.getLsbD_shiftLeft, hr, h1, hm]
      simp [hb, hi, h8]

/-- Assembling the low bytes of a value gives its low bytes, zero-extended. -/
theorem ofLeBytes_leBytes (v : Word) (n : Nat) : ofLeBytes (leBytes v n) = (v.setWidth (8 * n)).setWidth 64 := by
  apply BitVec.eq_of_getLsbD_eq
  intro i hi
  rw [ofLeBytes_getLsbD _ i hi]
  by_cases h : i / 8 < n
  · have hlt : i < 8 * n := by omega
    have hd : 8 * (i / 8) + i % 8 = i := by omega
    simp [leBytes, h, hi, hlt, hd, Nat.mod_lt]
  · have hge : ¬ i < 8 * n := by omega
    simp [leBytes, h, hge]

/-- Assembling what was disassembled gives the low bytes of the value, zero-extended, in either byte order. -/
theorem assemble_disassemble (e : Endian) (n : Nat) (v : Word) :
    assemble e (disassemble e n v) = (v.setWidth (8 * n)).setWidth 64 := by
  cases e <;> simp [assemble, disassemble, ofLeBytes_leBytes]

/-! ### Data memory of a state -/

/-- A byte outside the stored value reads as before (20_memory.md R62). -/
theorem byteAt_storeValue_outside (s : State) (addr a : Word) (size : Size) (v : Word)
    (h : ∀ k < size.bytes, addr + BitVec.ofNat 64 k ≠ a) : byteAt (storeValue s addr size v) a = byteAt s a := by
  simp only [byteAt, storeValue_mem]
  rw [Memory.get?_store_outside]
  intro k hk heq
  exact h k (by simpa using hk) (BitVec.eq_of_toNat_eq heq)

theorem Size.bytes_le (size : Size) : size.bytes ≤ 8 := by cases size <;> decide

/-- The `k`-th byte of a stored value (20_memory.md R62). -/
theorem byteAt_storeValue_inside (s : State) (addr : Word) (size : Size) (v : Word) (k : Nat) (hk : k < size.bytes) :
    byteAt (storeValue s addr size v) (addr + BitVec.ofNat 64 k) =
      v.extractLsb' (8 * (if s.platform.endian = .little then k else size.bytes - 1 - k)) 8 := by
  have hlen : k < (disassemble s.platform.endian size.bytes v).length := by simpa using hk
  have hle := size.bytes_le
  simp only [byteAt, storeValue_mem]
  rw [Memory.get?_store_inside _ _ _ k hlen (by simp; omega), Option.getD_some, disassemble_getElem]

/-- A value is read back as it was stored (20_memory.md R61, R62). -/
theorem loadValue_storeValue (s : State) (addr : Word) (size : Size) (v : Word) :
    loadValue (storeValue s addr size v) addr size = (v.setWidth (8 * size.bytes)).setWidth 64 := by
  rw [← assemble_disassemble s.platform.endian]
  simp only [loadValue, storeValue_platform]
  congr 1
  apply List.ext_getElem
  · simp
  · intro k h1 h2
    have hk : k < size.bytes := by simpa using h2
    simp [byteAt_storeValue_inside _ _ _ _ _ hk, disassemble_getElem]

/-- The environment changes no byte that it may not replace (20_memory.md R72). -/
theorem byteAt_interfere (s : State) (a : Word) (h : environmentByte s.platform a.toNat = false) :
    byteAt s.interfere a = byteAt s a := by
  unfold State.interfere
  split
  · rfl
  · simp only [byteAt, State.setInterference_mem, State.setMem_mem]
    rw [Memory.get?_storeCells_outside]
    intro c hc heq
    have := (List.mem_filter.mp hc).2
    simp [heq, h] at this

/-- The environment keeps the canonical form of memory. -/
theorem State.interfere_wf (s : State) (h : Memory.wf s.mem) : Memory.wf s.interfere.mem := by
  unfold State.interfere
  split
  · exact h
  · refine Memory.storeCells_wf _ _ h fun c hc => ?_
    have := (List.mem_filter.mp hc).2
    simp only [environmentByte, Bool.and_eq_true, decide_eq_true_eq] at this
    exact this.1.1

/-- A helper keeps the canonical form of memory. -/
theorem State.helperReturn_wf (s : State) (x : Word) (l : List (Fin 11 × Word)) (w : List Host.Cell)
    (h : Memory.wf s.mem) : Memory.wf (s.helperReturn x l w).mem := by
  refine Memory.storeCells_wf _ _ h fun c hc => ?_
  have := (List.mem_filter.mp hc).2
  simp only [helperByte, Bool.and_eq_true, decide_eq_true_eq] at this
  exact this.1

/-- Memory is in its canonical form after reset. -/
theorem State.reset_mem_wf : Memory.wf State.reset.mem := by decide

end Sys2Proof.Machine
end

