-- ==== Sys2Proof/Laws/Ops.lean ====
section
/-! SUPPORT. For each shared operation, once, everything it can do: if it answers a next state (or a value), then this holds. -/

namespace Sys2Proof.Machine

/-! ### Sequencing -/

/-- A sequence that ended well: its first part did, and the rest did on what it gave. -/
theorem bind_eq_ok {α β : Type} {x : Except Fault α} {f : α → Except Fault β} {b : β} :
    (x >>= f) = .ok b ↔ ∃ a, x = .ok a ∧ f a = .ok b := by
  cases x <;> simp [bind, Except.bind]

/-- Returning a value ends well with that value. -/
theorem pure_eq_ok {α : Type} {a b : α} : (pure a : Except Fault α) = .ok b ↔ b = a := by
  simp [pure, Except.pure, eq_comm]

/-- The one value of a check that answers nothing. -/
theorem exists_unit {p : Unit → Prop} : (∃ u, p u) ↔ p () := ⟨fun ⟨_, h⟩ => h, fun h => ⟨(), h⟩⟩

/-- A meaning answers a next state exactly when nothing in it faulted. -/
theorem outcome_eq_next {x : Except Fault State} {t : State} : outcome x = .next t ↔ x = .ok t := by
  cases x <;> simp [outcome]

/-- A meaning answers a fault exactly when something in it raised that fault. -/
theorem outcome_eq_fault {x : Except Fault State} {f : Fault} : outcome x = .fault f ↔ x = .error f := by
  cases x <;> simp [outcome]

/-- No shared operation refuses. -/
theorem outcome_ne_refused (x : Except Fault State) (r : Refusal) : outcome x ≠ .refused r := by
  cases x <;> simp [outcome]

/-! ### The checks before an instruction's rule -/

theorem permit_eq_ok {s : State} {g : ConfGroup} {rs : List Reg} {u : Unit} :
    permit s g rs = .ok u ↔ (∀ r ∈ rs, r.Valid) ∧ supports s.platform.groups g = true := by
  unfold permit
  split
  · rename_i h
    simp only [List.all_eq_true, decide_eq_true_eq] at h
    split <;> simp_all
  · rename_i h
    simp only [List.all_eq_true, decide_eq_true_eq] at h
    constructor
    · intro h'; cases h'
    · intro h'; exact absurd h'.1 h

theorem permit_of {s : State} {g : ConfGroup} {rs : List Reg} (hr : ∀ r ∈ rs, r.Valid)
    (hg : supports s.platform.groups g = true) : permit s g rs = .ok () := permit_eq_ok.mpr ⟨hr, hg⟩

/-! ### Registers and operands -/

theorem readReg_eq_ok {s : State} {r : Reg} {v : Word} : readReg s r = .ok v ↔ s.reg r = some v := by
  unfold readReg
  split <;> simp_all

theorem readReg_eq_error {s : State} {r : Reg} {f : Fault} :
    readReg s r = .error f ↔ s.reg r = none ∧ f = .uninitRegister r := by
  unfold readReg
  cases s.reg r <;> simp [eq_comm]

theorem value64_eq_ok {s : State} {b : Source} {v : Word} :
    b.value64 s = .ok v ↔ (∃ imm, b = .k imm ∧ v = sextImm imm) ∨ ∃ src, b = .x src ∧ s.reg src = some v := by
  cases b with
  | k imm => simp [Source.value64, eq_comm]
  | x src => simp [Source.value64, readReg_eq_ok]

theorem value32_eq_ok {s : State} {b : Source} {v : Word32} :
    b.value32 s = .ok v ↔ b = .k v ∨ ∃ src w, b = .x src ∧ s.reg src = some w ∧ v = low32 w := by
  cases b with
  | k imm => simp [Source.value32]
  | x src =>
    cases h : readReg s src with
    | error f => simp [Source.value32, h, Except.map, (readReg_eq_error.mp h).1]
    | ok w => simp [Source.value32, h, Except.map, readReg_eq_ok.mp h, eq_comm]

/-! ### Memory accesses -/

/-- Every byte of an access that passed its checks is admitted, or all of them together are. -/
theorem checkBytes_eq_ok {p : Platform} {addr : Word} {k : MemKind} {n : Nat} {u : Unit} :
    checkBytes p addr k n = .ok u ↔ ∀ j < n, admits p (addr + BitVec.ofNat 64 j) 1 k = true := by
  induction n generalizing addr with
  | zero => simp [checkBytes]
  | succ n ih =>
    have hshift (j : Nat) : addr + BitVec.ofNat 64 (j + 1) = addr + 1 + BitVec.ofNat 64 j := by
      rw [Nat.add_comm j 1, BitVec.ofNat_add, ← BitVec.add_assoc]; rfl
    unfold checkBytes
    split
    · rename_i h
      rw [ih]
      constructor
      · intro hall j hj
        cases j with
        | zero => simpa using h
        | succ j => rw [hshift]; exact hall j (by omega)
      · intro hall j hj
        rw [← hshift]
        exact hall (j + 1) (by omega)
    · rename_i h
      constructor
      · intro h'; cases h'
      · intro hall; exact absurd (by simpa using hall 0 (by omega)) h

/-- An access passes its checks exactly when it is aligned and admitted as a whole, or is a misaligned load or store that the
platform splits, does not span the wrap, and has every byte admitted (20_memory.md R65, R66, R79). -/
theorem checkAccess_eq_ok {p : Platform} {addr : Word} {n : Nat} {k : MemKind} {u : Unit} :
    checkAccess p addr n k = .ok u ↔
      (addr.toNat % n = 0 ∧ admits p addr n k = true) ∨
      (addr.toNat % n ≠ 0 ∧ p.misaligned = .split ∧ k ≠ .atomic ∧ addr.toNat + n ≤ 2 ^ 64 ∧
        ∀ j < n, admits p (addr + BitVec.ofNat 64 j) 1 k = true) := by
  unfold checkAccess
  split
  · rename_i h
    split <;> simp_all
  · rename_i h
    split
    · rename_i h2
      split
      · rename_i h3
        rw [checkBytes_eq_ok]
        exact ⟨fun hall => .inr ⟨h, h2.1, h2.2, h3, hall⟩, fun h' => h'.elim (fun h' => absurd h'.1 h) (·.2.2.2.2)⟩
      · rename_i h3
        simp only [reduceCtorEq, false_iff, not_or]
        exact ⟨fun h' => h h'.1, fun h' => h3 h'.2.2.2.1⟩
    · rename_i h2
      simp only [reduceCtorEq, false_iff, not_or]
      exact ⟨fun h' => h h'.1, fun h' => h2 ⟨h'.2.1, h'.2.2.1⟩⟩

theorem memRead_eq_ok {s : State} {addr : Word} {size : Size} {v : Word} :
    memRead s addr size = .ok v ↔
      checkAccess s.platform addr size.bytes .read = .ok () ∧ v = loadValue s addr size := by
  simp only [memRead, bind_eq_ok, exists_unit, pure_eq_ok]

theorem memWrite_eq_ok {s t : State} {addr : Word} {size : Size} {v : Word} :
    memWrite s addr size v = .ok t ↔
      checkAccess s.platform addr size.bytes .write = .ok () ∧ t = storeValue s addr size v := by
  simp only [memWrite, bind_eq_ok, exists_unit, pure_eq_ok]

theorem atomicRMW_eq_ok {s : State} {addr : Word} {size : Size} {f : Word → Word} {r : Word × State} :
    atomicRMW s addr size f = .ok r ↔
      checkAccess s.platform addr size.bytes .atomic = .ok () ∧
        r = (loadValue s addr size, storeValue s addr size (f (loadValue s addr size))) := by
  simp only [atomicRMW, bind_eq_ok, exists_unit, pure_eq_ok]

/-! ### Calls and the end of a run -/

/-- A helper call that goes on: the id has a helper, and either the next listed act returns, or none is listed and the outcome
is made of free values (44_call_exit.md R340, R344). -/
theorem callHelper_eq_ok {s t : State} {ids : IdSet} {imm : Imm} :
    callHelper s ids imm = .ok t ↔
      hasHelper ids imm = true ∧
        ((∃ x named writes rest, s.helperActs = .returns x named writes :: rest ∧
            t = (s.setHelperActs rest).helperReturn x named writes) ∨
          (s.helperActs = [] ∧
            t = (s.setFreeIdx (s.freeIdx + 1)).helperReturn (Config.helperResult s.freeIdx)
              (Config.helperNamed s.freeIdx) (Config.helperWrites s.freeIdx))) := by
  unfold callHelper
  cases hasHelper ids imm
  · simp
  · cases hs : s.helperActs with
    | nil => simp [eq_comm (a := t)]
    | cons a rest => cases a <;> simp [eq_comm (a := t)]

/-! ### The frame pointer of a callee -/

/-- What lies STACK_SIZE bytes above a bound of the choice is an edge. -/
theorem mem_stackEdges {s : State} {w : Word} {lo : Nat}
    (hlo : lo ∈ 0 :: s.stackTops.map BitVec.toNat ++ s.platform.regions.map (fun r => r.base.toNat) ++
      s.platform.regions.map fun r => r.base.toNat + r.len)
    (h : w.toNat = lo + s.platform.stackSize) : w ∈ stackEdges s := by
  refine List.mem_map.mpr ⟨lo, hlo, ?_⟩
  rw [← h, BitVec.ofNat_toNat, BitVec.setWidth_eq]

/-- What holds of a word, and of the word below every word of which it holds but an edge, holds of an edge. -/
theorem exists_edge {s : State} {ok : Word → Bool}
    (hbelow : ∀ w, ok w = true → w ∈ stackEdges s ∨ 0 < w.toNat ∧ ok (w - 1) = true) {w : Word} (h : ok w = true) :
    ∃ e ∈ stackEdges s, ok e = true := by
  induction hn : w.toNat using Nat.strong_induction_on generalizing w with
  | _ n ih =>
    obtain he | ⟨hpos, hok⟩ := hbelow w h
    · exact ⟨w, he, h⟩
    · exact ih (w - 1).toNat (by bv_omega) hok rfl

/-- The bounds that a word is not STACK_SIZE bytes above, where it is no edge. -/
theorem ne_of_not_edge {s : State} {w : Word} (h : w ∉ stackEdges s) :
    w.toNat ≠ s.platform.stackSize ∧ (∀ t ∈ s.stackTops, w.toNat ≠ t.toNat + s.platform.stackSize) ∧
      ∀ r ∈ s.platform.regions, w.toNat ≠ r.base.toNat + s.platform.stackSize ∧
        w.toNat ≠ r.base.toNat + r.len + s.platform.stackSize := by
  refine ⟨fun he => h (mem_stackEdges (lo := 0) (by simp) (by omega)),
    fun t ht he => h (mem_stackEdges (lo := t.toNat) ?_ he), fun r hr => ⟨fun he => h (mem_stackEdges (lo := r.base.toNat) ?_ he),
      fun he => h (mem_stackEdges (lo := r.base.toNat + r.len) ?_ he)⟩⟩
  all_goals simp only [List.cons_append, List.mem_cons, List.mem_append, List.mem_map]
  · exact .inr (.inl (.inl ⟨t, ht, rfl⟩))
  · exact .inr (.inl (.inr ⟨r, hr, rfl⟩))
  · exact .inr (.inr ⟨r, hr, rfl⟩)

/-- Below a frame pointer apart from the stacks in use, but for an edge, is another one. -/
theorem apartTop_below {s : State} {w : Word} (h : apartTop s w = true) (hw : w ∉ stackEdges s) :
    0 < w.toNat ∧ apartTop s (w - 1) = true := by
  obtain ⟨hsize, htops, -⟩ := ne_of_not_edge hw
  simp only [apartTop, meetsStack, Bool.and_eq_true, decide_eq_true_eq, List.all_eq_true, Bool.not_eq_true',
    decide_eq_false_iff_not] at h ⊢
  obtain ⟨hle, hall⟩ := h
  have hpred : (w - 1).toNat = w.toNat - 1 := by bv_omega
  refine ⟨by omega, by omega, fun t ht => ?_⟩
  have := htops t ht
  have := hall t ht
  omega

/-- The same of a private one. -/
theorem privateTop_below {s : State} {w : Word} (h : privateTop s w = true) (hw : w ∉ stackEdges s) :
    0 < w.toNat ∧ privateTop s (w - 1) = true := by
  obtain ⟨hsize, -, hregions⟩ := ne_of_not_edge hw
  obtain ⟨hapart, hshared⟩ := Bool.and_eq_true_iff.mp h
  obtain ⟨hpos, hbelow⟩ := apartTop_below hapart hw
  have hle : s.platform.stackSize ≤ w.toNat := of_decide_eq_true (Bool.and_eq_true_iff.mp hapart).1
  have hpred : (w - 1).toNat = w.toNat - 1 := by bv_omega
  refine ⟨hpos, Bool.and_eq_true_iff.mpr ⟨hbelow, List.all_eq_true.mpr fun r hr => ?_⟩⟩
  have hr' := List.all_eq_true.mp hshared r hr
  obtain ⟨-, hend⟩ := hregions r hr
  cases hs : r.shared
  · rfl
  · simp only [hs, meetsStack, Bool.true_and, Bool.not_eq_true', decide_eq_false_iff_not] at hr' ⊢
    omega

/-- The same of a fresh one. -/
theorem freshTop_below {s : State} {w : Word} (h : freshTop s w = true) (hw : w ∉ stackEdges s) :
    0 < w.toNat ∧ freshTop s (w - 1) = true := by
  obtain ⟨-, -, hregions⟩ := ne_of_not_edge hw
  obtain ⟨hprivate, hsupplied⟩ := Bool.and_eq_true_iff.mp h
  obtain ⟨hpos, hbelow⟩ := privateTop_below hprivate hw
  refine ⟨hpos, Bool.and_eq_true_iff.mpr ⟨hbelow, ?_⟩⟩
  have hpred : (w - 1).toNat = w.toNat - 1 := by bv_omega
  simp only [providesStack, List.any_eq_true, Bool.and_eq_true, decide_eq_true_eq] at hsupplied ⊢
  obtain ⟨r, hr, hkind, hlo⟩ := hsupplied
  have := hregions r hr
  exact ⟨r, hr, ⟨hkind.1, by omega⟩, by omega⟩

/-- Where something that reaches an edge holds of a word, the choices of a callee's frame pointer hold one of which it does. -/
theorem find_stackChoices {s : State} {ok : Word → Bool}
    (hbelow : ∀ w, ok w = true → w ∉ stackEdges s → 0 < w.toNat ∧ ok (w - 1) = true) {w : Word} (h : ok w = true) :
    ∃ v, (stackChoices s).find? ok = some v ∧ ok v = true := by
  obtain ⟨e, he, hok⟩ := exists_edge (fun w hw => or_iff_not_imp_left.mpr (hbelow w hw)) h
  cases hf : (stackChoices s).find? ok with
  | some v => exact ⟨v, rfl, List.find?_some hf⟩
  | none => exact absurd hok (List.find?_eq_none.mp hf e (List.mem_append_right _ (List.mem_cons_of_mem _ he)))

/-- All that a callee's frame pointer is: fresh where some word is, else private where some word is, else apart where some word is
(44_call_exit.md R345, log 11). -/
theorem calleeFramePointer_spec (s : State) :
    ((∃ w, freshTop s w = true) → freshTop s (calleeFramePointer s) = true) ∧
      ((∃ w, privateTop s w = true) → privateTop s (calleeFramePointer s) = true) ∧
      ((∃ w, apartTop s w = true) → apartTop s (calleeFramePointer s) = true) := by
  have hprivate {w : Word} (h : freshTop s w = true) : privateTop s w = true := (Bool.and_eq_true_iff.mp h).1
  have hapart {w : Word} (h : privateTop s w = true) : apartTop s w = true := (Bool.and_eq_true_iff.mp h).1
  unfold calleeFramePointer
  refine ⟨?_, ?_, ?_⟩
  · rintro ⟨w, hw⟩
    obtain ⟨v, hf, hv⟩ := find_stackChoices (fun _ => freshTop_below) hw
    simpa [hf] using hv
  · rintro ⟨w, hw⟩
    obtain ⟨v, hf, hv⟩ := find_stackChoices (fun _ => privateTop_below) hw
    cases h1 : (stackChoices s).find? (freshTop s) with
    | some u => simpa using hprivate (List.find?_some h1)
    | none => simpa [hf] using hv
  · rintro ⟨w, hw⟩
    obtain ⟨v, hf, hv⟩ := find_stackChoices (fun _ => apartTop_below) hw
    cases h1 : (stackChoices s).find? (freshTop s) with
    | some u => simpa using hapart (hprivate (List.find?_some h1))
    | none =>
      cases h2 : (stackChoices s).find? (privateTop s) with
      | some u => simpa using hapart (List.find?_some h2)
      | none => simpa [hf] using hv

theorem callLocal_eq_ok {s t : State} {d : Int} :
    callLocal s d = .ok t ↔
      s.mayCall = true ∧ t = (s.enterCallee.setCalls (s.frame (s.pc + 1) :: s.calls)).jump d := by
  unfold callLocal
  cases s.mayCall <;> simp [eq_comm]

theorem endRun_eq_ok {s t : State} :
    endRun s = .ok t ↔
      (s.platform.callConv = .isaOnly ∧ t = s.setStatus (.ended none)) ∨
      (s.platform.callConv = .linux ∧ ∃ v, s.reg 0 = some v ∧ t = s.setStatus (.ended (some v))) := by
  unfold endRun
  cases s.platform.callConv
  · simp only [bind_eq_ok, pure_eq_ok, readReg_eq_ok, reduceCtorEq, false_and, true_and, false_or]
  · simp [eq_comm]

theorem returnOrEnd_eq_ok {s t : State} :
    returnOrEnd s = .ok t ↔
      (s.calls = [] ∧ endRun s = .ok t) ∨
      (∃ f rest, s.calls = f :: rest ∧ t = (((s.setRegs (f.restore s.regs)).setCalls rest).setStackTops (f.leave s.stackTops)).setPc f.ret) := by
  unfold returnOrEnd
  cases s.calls <;> simp [eq_comm]

theorem demandAddress_eq_ok {subtype : BitVec 4} {imm : Imm} {o : Option Word} {a : Word} :
    demandAddress subtype imm o = .ok a ↔ o = some a := by
  cases o <;> simp [demandAddress]

/-! ### The meanings shared by a family -/

theorem alu32_eq_next {g : ConfGroup} {f : Word32 → Word32 → Word32} {dst : Reg} {b : Source} {s t : State} :
    alu32 g f dst b s = .next t ↔
      permit s g (dst :: b.regs) = .ok () ∧ ∃ x y, s.reg dst = some x ∧ b.value32 s = .ok y ∧
        t = s.finish dst (zext32 (f (low32 x) y)) := by
  simp only [alu32, outcome_eq_next, exists_unit, exists_and_left, bind_eq_ok, pure_eq_ok, readReg_eq_ok]

theorem neg32_eq_next {g : ConfGroup} {dst : Reg} {s t : State} :
    neg32 g dst s = .next t ↔
      permit s g [dst] = .ok () ∧ ∃ x, s.reg dst = some x ∧ t = s.finish dst (zext32 (arithNeg (low32 x))) := by
  simp only [neg32, outcome_eq_next, exists_unit, bind_eq_ok, pure_eq_ok, readReg_eq_ok]

theorem mov32_eq_next {g : ConfGroup} {dst : Reg} {b : Source} {s t : State} :
    mov32 g dst b s = .next t ↔
      permit s g (dst :: b.regs) = .ok () ∧ ∃ y, b.value32 s = .ok y ∧ t = s.finish dst (zext32 y) := by
  simp only [mov32, outcome_eq_next, exists_unit, bind_eq_ok, pure_eq_ok]

theorem movsx32_eq_next {g : ConfGroup} {k : Nat} {dst src : Reg} {s t : State} :
    movsx32 g k dst src s = .next t ↔
      permit s g [dst, src] = .ok () ∧ ∃ y, s.reg src = some y ∧ t = s.finish dst (zext32 (sextLow k 32 y)) := by
  simp only [movsx32, outcome_eq_next, exists_unit, bind_eq_ok, pure_eq_ok, readReg_eq_ok]

theorem alu64_eq_next {g : ConfGroup} {f : Word → Word → Word} {dst : Reg} {b : Source} {s t : State} :
    alu64 g f dst b s = .next t ↔
      permit s g (dst :: b.regs) = .ok () ∧ ∃ x y, s.reg dst = some x ∧ b.value64 s = .ok y ∧
        t = s.finish dst (f x y) := by
  simp only [alu64, outcome_eq_next, exists_unit, exists_and_left, bind_eq_ok, pure_eq_ok, readReg_eq_ok]

theorem neg64_eq_next {g : ConfGroup} {dst : Reg} {s t : State} :
    neg64 g dst s = .next t ↔
      permit s g [dst] = .ok () ∧ ∃ x, s.reg dst = some x ∧ t = s.finish dst (arithNeg x) := by
  simp only [neg64, outcome_eq_next, exists_unit, bind_eq_ok, pure_eq_ok, readReg_eq_ok]

theorem mov64_eq_next {g : ConfGroup} {dst : Reg} {b : Source} {s t : State} :
    mov64 g dst b s = .next t ↔
      permit s g (dst :: b.regs) = .ok () ∧ ∃ y, b.value64 s = .ok y ∧ t = s.finish dst y := by
  simp only [mov64, outcome_eq_next, exists_unit, bind_eq_ok, pure_eq_ok]

theorem movsx64_eq_next {g : ConfGroup} {k : Nat} {dst src : Reg} {s t : State} :
    movsx64 g k dst src s = .next t ↔
      permit s g [dst, src] = .ok () ∧ ∃ y, s.reg src = some y ∧ t = s.finish dst (sextLow k 64 y) := by
  simp only [movsx64, outcome_eq_next, exists_unit, bind_eq_ok, pure_eq_ok, readReg_eq_ok]

theorem swapRegister_eq_next {g : ConfGroup} {f : Word → Word} {dst : Reg} {s t : State} :
    swapRegister g f dst s = .next t ↔
      permit s g [dst] = .ok () ∧ ∃ x, s.reg dst = some x ∧ t = s.finish dst (f x) := by
  simp only [swapRegister, outcome_eq_next, exists_unit, bind_eq_ok, pure_eq_ok, readReg_eq_ok]

theorem jumpAlways_eq_next {g : ConfGroup} {d : Int} {s t : State} :
    jumpAlways g d s = .next t ↔ permit s g [] = .ok () ∧ t = s.jump d := by
  simp only [jumpAlways, outcome_eq_next, exists_unit, bind_eq_ok, pure_eq_ok]

theorem branch64_eq_next {g : ConfGroup} {cond : Word → Word → Bool} {dst : Reg} {b : Source} {off : Off} {s t : State} :
    branch64 g cond dst b off s = .next t ↔
      permit s g (dst :: b.regs) = .ok () ∧ ∃ x y, s.reg dst = some x ∧ b.value64 s = .ok y ∧
        t = if cond x y then s.jump (offDisplacement off) else s.advance := by
  simp only [branch64, outcome_eq_next, exists_unit, exists_and_left, bind_eq_ok, pure_eq_ok, readReg_eq_ok]

theorem branch32_eq_next {g : ConfGroup} {cond : Word32 → Word32 → Bool} {dst : Reg} {b : Source} {off : Off}
    {s t : State} :
    branch32 g cond dst b off s = .next t ↔
      permit s g (dst :: b.regs) = .ok () ∧ ∃ x y, s.reg dst = some x ∧ b.value32 s = .ok y ∧
        t = if cond (low32 x) y then s.jump (offDisplacement off) else s.advance := by
  simp only [branch32, outcome_eq_next, exists_unit, exists_and_left, bind_eq_ok, pure_eq_ok, readReg_eq_ok]

theorem helperCall_eq_next {g : ConfGroup} {ids : IdSet} {imm : Imm} {s t : State} :
    helperCall g ids imm s = .next t ↔
      permit s g [] = .ok () ∧ ∃ u, callHelper s ids imm = .ok u ∧ t = u.advance := by
  simp only [helperCall, outcome_eq_next, exists_unit, bind_eq_ok, pure_eq_ok]

theorem localCall_eq_next {g : ConfGroup} {d : Int} {s t : State} :
    localCall g d s = .next t ↔ permit s g [] = .ok () ∧ callLocal s d = .ok t := by
  simp only [localCall, outcome_eq_next, exists_unit, bind_eq_ok]

theorem exitCall_eq_next {g : ConfGroup} {s t : State} :
    exitCall g s = .next t ↔ permit s g [] = .ok () ∧ returnOrEnd s = .ok t := by
  simp only [exitCall, outcome_eq_next, exists_unit, bind_eq_ok]

theorem loadInto_eq_next {g : ConfGroup} {size : Size} {ext : Word → Word} {dst src : Reg} {off : Off} {s t : State} :
    loadInto g size ext dst src off s = .next t ↔
      permit s g [dst, src] = .ok () ∧ ∃ base, s.reg src = some base ∧
        checkAccess s.platform (effectiveAddress base off) size.bytes .read = .ok () ∧
        t = s.finish dst (ext (loadValue s (effectiveAddress base off) size)) := by
  simp only [loadInto, outcome_eq_next, exists_unit, exists_and_left, and_assoc, exists_eq_left, bind_eq_ok, pure_eq_ok, readReg_eq_ok, memRead_eq_ok]

theorem storeFrom_eq_next {g : ConfGroup} {size : Size} {dst : Reg} {off : Off} {b : Source} {s t : State} :
    storeFrom g size dst off b s = .next t ↔
      permit s g (dst :: b.regs) = .ok () ∧ ∃ base v, s.reg dst = some base ∧ b.value64 s = .ok v ∧
        checkAccess s.platform (effectiveAddress base off) size.bytes .write = .ok () ∧
        t = (storeValue s (effectiveAddress base off) size v).advance := by
  simp only [storeFrom, outcome_eq_next, exists_unit, exists_and_left, and_assoc, exists_eq_left, bind_eq_ok, pure_eq_ok, readReg_eq_ok, memWrite_eq_ok]

theorem atomicUpdate_eq_next {g : ConfGroup} {size : Size} {f : Word → Word → Word} {fetch : Bool} {dst src : Reg}
    {off : Off} {s t : State} :
    atomicUpdate g size f fetch dst src off s = .next t ↔
      permit s g [dst, src] = .ok () ∧ ∃ base v, s.reg dst = some base ∧ s.reg src = some v ∧
        checkAccess s.platform (effectiveAddress base off) size.bytes .atomic = .ok () ∧
        t = if fetch then
              (storeValue s (effectiveAddress base off) size
                (f (loadValue s (effectiveAddress base off) size) v)).finish src
                  (loadValue s (effectiveAddress base off) size)
            else
              (storeValue s (effectiveAddress base off) size
                (f (loadValue s (effectiveAddress base off) size) v)).advance := by
  simp only [atomicUpdate, outcome_eq_next, exists_unit, exists_and_left, and_assoc, exists_eq_left, bind_eq_ok, pure_eq_ok, readReg_eq_ok, atomicRMW_eq_ok]

theorem atomicCompare_eq_next {g : ConfGroup} {size : Size} {dst src : Reg} {off : Off} {s t : State} :
    atomicCompare g size dst src off s = .next t ↔
      permit s g [dst, src] = .ok () ∧ ∃ base v c, s.reg dst = some base ∧ s.reg src = some v ∧ s.reg 0 = some c ∧
        checkAccess s.platform (effectiveAddress base off) size.bytes .atomic = .ok () ∧
        t = (storeValue s (effectiveAddress base off) size
              (if loadValue s (effectiveAddress base off) size = comparand size c then v
                else loadValue s (effectiveAddress base off) size)).finish 0
                  (loadValue s (effectiveAddress base off) size) := by
  simp only [atomicCompare, outcome_eq_next, exists_unit, exists_and_left, and_assoc, exists_eq_left, bind_eq_ok, pure_eq_ok, readReg_eq_ok, atomicRMW_eq_ok]

theorem setWide_eq_next {g : ConfGroup} {dst : Reg} {v : Except Fault Word} {s t : State} :
    setWide g dst v s = .next t ↔
      permit s g [dst] = .ok () ∧ ∃ a, v = .ok a ∧ t = (s.writeReg dst a).advanceWide := by
  simp only [setWide, outcome_eq_next, exists_unit, bind_eq_ok, pure_eq_ok]

/-! ### Fetching and stepping -/

/-- A fetch that answers an instruction: `pc` is a slot of the program in instruction position that decodes to it
(60_exceptions.md R462). -/
theorem fetch_eq_ok {s : State} {i : Instr} :
    fetch s = .ok i ↔
      0 ≤ s.pc ∧ ∃ slot, s.program[s.pc.toNat]? = some slot ∧ isSecondSlot s.program s.pc.toNat = false ∧
        decodeSlots s.platform.endian slot s.program[s.pc.toNat + 1]? = .ok i := by
  unfold fetch
  split
  · rename_i h
    simp only [reduceCtorEq, false_iff]
    intro h'
    omega
  · rename_i h
    split
    · simp_all
    · rename_i slot hs
      split
      · simp_all
      · rename_i h2
        simp only [hs, Option.some.injEq, exists_eq_left']
        split
        · rename_i hd
          rw [hd]
          simp_all
        · rename_i hd
          rw [hd]
          simp_all

/-- A step that goes on: the run has ended and nothing happens, or the environment acts and the instruction at `pc` is
executed. -/
theorem step_eq_next {s t : State} :
    step s = .next t ↔
      ((∃ r, s.status = .ended r) ∧ t = s) ∨
      (s.status = .running ∧ ∃ i, fetch s.interfere = .ok i ∧ exec i s.interfere = .next t) := by
  unfold step
  split
  · simp_all [eq_comm]
  · split <;> simp_all

end Sys2Proof.Machine
end

