-- ==== Sys2Proof/Laws/PerInstr.lean ====
section
/-! SUPPORT. The family `FieldRoundTrip`, one lemma for each constructor: the decoder reads a well-formed instruction back from the
fields that the encoder writes for it (30_encoding.md R96, R97, R109). -/

/-- The fields that the encoder writes for a well-formed instruction match its row of the opcode table, in the position that the row
describes (30_encoding.md R110), and decode to it. -/
def Sys2Proof.Laws.FieldRoundTrip.Statement (i : Sys2Proof.Instr) : Prop :=
  i.WellFormed → Sys2Proof.decodeRow (Sys2Proof.encodeFields i).1 (Sys2Proof.encodeFields i).2 = .ok i

namespace Sys2Proof.Laws.FieldRoundTrip

section

set_option Elab.async false

theorem addKAlu (dst : Reg) (imm : Imm) : Statement (.addKAlu dst imm) := by
  intro h
  simp only [Instr.WellFormed, Instr.regs, Reg.Valid, List.forall_mem_cons, List.not_mem_nil, false_implies, implies_true, and_true] at h
  simp [encodeFields, decodeRow, decodeFields, decodeAlu, regImm, demand, noOff, Reg.ok, h]

theorem addXAlu (dst : Reg) (src : Reg) : Statement (.addXAlu dst src) := by
  intro h
  simp only [Instr.WellFormed, Instr.regs, Reg.Valid, List.forall_mem_cons, List.not_mem_nil, false_implies, implies_true, and_true] at h
  simp [encodeFields, decodeRow, decodeFields, decodeAlu, regReg, demand, noOff, Reg.ok, h]

theorem subKAlu (dst : Reg) (imm : Imm) : Statement (.subKAlu dst imm) := by
  intro h
  simp only [Instr.WellFormed, Instr.regs, Reg.Valid, List.forall_mem_cons, List.not_mem_nil, false_implies, implies_true, and_true] at h
  simp [encodeFields, decodeRow, decodeFields, decodeAlu, regImm, demand, noOff, Reg.ok, h]

theorem subXAlu (dst : Reg) (src : Reg) : Statement (.subXAlu dst src) := by
  intro h
  simp only [Instr.WellFormed, Instr.regs, Reg.Valid, List.forall_mem_cons, List.not_mem_nil, false_implies, implies_true, and_true] at h
  simp [encodeFields, decodeRow, decodeFields, decodeAlu, regReg, demand, noOff, Reg.ok, h]

theorem mulKAlu (dst : Reg) (imm : Imm) : Statement (.mulKAlu dst imm) := by
  intro h
  simp only [Instr.WellFormed, Instr.regs, Reg.Valid, List.forall_mem_cons, List.not_mem_nil, false_implies, implies_true, and_true] at h
  simp [encodeFields, decodeRow, decodeFields, decodeAlu, regImm, demand, noOff, Reg.ok, h]

theorem mulXAlu (dst : Reg) (src : Reg) : Statement (.mulXAlu dst src) := by
  intro h
  simp only [Instr.WellFormed, Instr.regs, Reg.Valid, List.forall_mem_cons, List.not_mem_nil, false_implies, implies_true, and_true] at h
  simp [encodeFields, decodeRow, decodeFields, decodeAlu, regReg, demand, noOff, Reg.ok, h]

theorem divKAlu (dst : Reg) (imm : Imm) : Statement (.divKAlu dst imm) := by
  intro h
  simp only [Instr.WellFormed, Instr.regs, Reg.Valid, List.forall_mem_cons, List.not_mem_nil, false_implies, implies_true, and_true] at h
  simp [encodeFields, decodeRow, decodeFields, decodeAlu, regImm, demand, Reg.ok, h]

theorem divXAlu (dst : Reg) (src : Reg) : Statement (.divXAlu dst src) := by
  intro h
  simp only [Instr.WellFormed, Instr.regs, Reg.Valid, List.forall_mem_cons, List.not_mem_nil, false_implies, implies_true, and_true] at h
  simp [encodeFields, decodeRow, decodeFields, decodeAlu, regReg, demand, Reg.ok, h]

theorem sdivKAlu (dst : Reg) (imm : Imm) : Statement (.sdivKAlu dst imm) := by
  intro h
  simp only [Instr.WellFormed, Instr.regs, Reg.Valid, List.forall_mem_cons, List.not_mem_nil, false_implies, implies_true, and_true] at h
  simp [encodeFields, decodeRow, decodeFields, decodeAlu, regImm, demand, Reg.ok, h]

theorem sdivXAlu (dst : Reg) (src : Reg) : Statement (.sdivXAlu dst src) := by
  intro h
  simp only [Instr.WellFormed, Instr.regs, Reg.Valid, List.forall_mem_cons, List.not_mem_nil, false_implies, implies_true, and_true] at h
  simp [encodeFields, decodeRow, decodeFields, decodeAlu, regReg, demand, Reg.ok, h]

theorem orKAlu (dst : Reg) (imm : Imm) : Statement (.orKAlu dst imm) := by
  intro h
  simp only [Instr.WellFormed, Instr.regs, Reg.Valid, List.forall_mem_cons, List.not_mem_nil, false_implies, implies_true, and_true] at h
  simp [encodeFields, decodeRow, decodeFields, decodeAlu, regImm, demand, noOff, Reg.ok, h]

theorem orXAlu (dst : Reg) (src : Reg) : Statement (.orXAlu dst src) := by
  intro h
  simp only [Instr.WellFormed, Instr.regs, Reg.Valid, List.forall_mem_cons, List.not_mem_nil, false_implies, implies_true, and_true] at h
  simp [encodeFields, decodeRow, decodeFields, decodeAlu, regReg, demand, noOff, Reg.ok, h]

theorem andKAlu (dst : Reg) (imm : Imm) : Statement (.andKAlu dst imm) := by
  intro h
  simp only [Instr.WellFormed, Instr.regs, Reg.Valid, List.forall_mem_cons, List.not_mem_nil, false_implies, implies_true, and_true] at h
  simp [encodeFields, decodeRow, decodeFields, decodeAlu, regImm, demand, noOff, Reg.ok, h]

theorem andXAlu (dst : Reg) (src : Reg) : Statement (.andXAlu dst src) := by
  intro h
  simp only [Instr.WellFormed, Instr.regs, Reg.Valid, List.forall_mem_cons, List.not_mem_nil, false_implies, implies_true, and_true] at h
  simp [encodeFields, decodeRow, decodeFields, decodeAlu, regReg, demand, noOff, Reg.ok, h]

theorem lshKAlu (dst : Reg) (imm : Imm) : Statement (.lshKAlu dst imm) := by
  intro h
  simp only [Instr.WellFormed, Instr.regs, Reg.Valid, List.forall_mem_cons, List.not_mem_nil, false_implies, implies_true, and_true] at h
  simp [encodeFields, decodeRow, decodeFields, decodeAlu, regImm, demand, noOff, Reg.ok, h]

theorem lshXAlu (dst : Reg) (src : Reg) : Statement (.lshXAlu dst src) := by
  intro h
  simp only [Instr.WellFormed, Instr.regs, Reg.Valid, List.forall_mem_cons, List.not_mem_nil, false_implies, implies_true, and_true] at h
  simp [encodeFields, decodeRow, decodeFields, decodeAlu, regReg, demand, noOff, Reg.ok, h]

theorem rshKAlu (dst : Reg) (imm : Imm) : Statement (.rshKAlu dst imm) := by
  intro h
  simp only [Instr.WellFormed, Instr.regs, Reg.Valid, List.forall_mem_cons, List.not_mem_nil, false_implies, implies_true, and_true] at h
  simp [encodeFields, decodeRow, decodeFields, decodeAlu, regImm, demand, noOff, Reg.ok, h]

theorem rshXAlu (dst : Reg) (src : Reg) : Statement (.rshXAlu dst src) := by
  intro h
  simp only [Instr.WellFormed, Instr.regs, Reg.Valid, List.forall_mem_cons, List.not_mem_nil, false_implies, implies_true, and_true] at h
  simp [encodeFields, decodeRow, decodeFields, decodeAlu, regReg, demand, noOff, Reg.ok, h]

theorem negKAlu (dst : Reg) : Statement (.negKAlu dst) := by
  intro h
  simp only [Instr.WellFormed, Instr.regs, Reg.Valid, List.forall_mem_cons, List.not_mem_nil, false_implies, implies_true, and_true] at h
  simp [encodeFields, decodeRow, decodeFields, decodeAlu, reg1, demand, noOff, Reg.ok, h]

theorem modKAlu (dst : Reg) (imm : Imm) : Statement (.modKAlu dst imm) := by
  intro h
  simp only [Instr.WellFormed, Instr.regs, Reg.Valid, List.forall_mem_cons, List.not_mem_nil, false_implies, implies_true, and_true] at h
  simp [encodeFields, decodeRow, decodeFields, decodeAlu, regImm, demand, Reg.ok, h]

theorem modXAlu (dst : Reg) (src : Reg) : Statement (.modXAlu dst src) := by
  intro h
  simp only [Instr.WellFormed, Instr.regs, Reg.Valid, List.forall_mem_cons, List.not_mem_nil, false_implies, implies_true, and_true] at h
  simp [encodeFields, decodeRow, decodeFields, decodeAlu, regReg, demand, Reg.ok, h]

theorem smodKAlu (dst : Reg) (imm : Imm) : Statement (.smodKAlu dst imm) := by
  intro h
  simp only [Instr.WellFormed, Instr.regs, Reg.Valid, List.forall_mem_cons, List.not_mem_nil, false_implies, implies_true, and_true] at h
  simp [encodeFields, decodeRow, decodeFields, decodeAlu, regImm, demand, Reg.ok, h]

theorem smodXAlu (dst : Reg) (src : Reg) : Statement (.smodXAlu dst src) := by
  intro h
  simp only [Instr.WellFormed, Instr.regs, Reg.Valid, List.forall_mem_cons, List.not_mem_nil, false_implies, implies_true, and_true] at h
  simp [encodeFields, decodeRow, decodeFields, decodeAlu, regReg, demand, Reg.ok, h]

theorem xorKAlu (dst : Reg) (imm : Imm) : Statement (.xorKAlu dst imm) := by
  intro h
  simp only [Instr.WellFormed, Instr.regs, Reg.Valid, List.forall_mem_cons, List.not_mem_nil, false_implies, implies_true, and_true] at h
  simp [encodeFields, decodeRow, decodeFields, decodeAlu, regImm, demand, noOff, Reg.ok, h]

theorem xorXAlu (dst : Reg) (src : Reg) : Statement (.xorXAlu dst src) := by
  intro h
  simp only [Instr.WellFormed, Instr.regs, Reg.Valid, List.forall_mem_cons, List.not_mem_nil, false_implies, implies_true, and_true] at h
  simp [encodeFields, decodeRow, decodeFields, decodeAlu, regReg, demand, noOff, Reg.ok, h]

theorem movKAlu (dst : Reg) (imm : Imm) : Statement (.movKAlu dst imm) := by
  intro h
  simp only [Instr.WellFormed, Instr.regs, Reg.Valid, List.forall_mem_cons, List.not_mem_nil, false_implies, implies_true, and_true] at h
  simp [encodeFields, decodeRow, decodeFields, decodeAlu, regImm, demand, noOff, Reg.ok, h]

theorem movXAlu (dst : Reg) (src : Reg) : Statement (.movXAlu dst src) := by
  intro h
  simp only [Instr.WellFormed, Instr.regs, Reg.Valid, List.forall_mem_cons, List.not_mem_nil, false_implies, implies_true, and_true] at h
  simp [encodeFields, decodeRow, decodeFields, decodeAlu, regReg, demand, Reg.ok, h]

theorem movsx8XAlu (dst : Reg) (src : Reg) : Statement (.movsx8XAlu dst src) := by
  intro h
  simp only [Instr.WellFormed, Instr.regs, Reg.Valid, List.forall_mem_cons, List.not_mem_nil, false_implies, implies_true, and_true] at h
  simp [encodeFields, decodeRow, decodeFields, decodeAlu, regReg, demand, Reg.ok, h]

theorem movsx16XAlu (dst : Reg) (src : Reg) : Statement (.movsx16XAlu dst src) := by
  intro h
  simp only [Instr.WellFormed, Instr.regs, Reg.Valid, List.forall_mem_cons, List.not_mem_nil, false_implies, implies_true, and_true] at h
  simp [encodeFields, decodeRow, decodeFields, decodeAlu, regReg, demand, Reg.ok, h]

theorem arshKAlu (dst : Reg) (imm : Imm) : Statement (.arshKAlu dst imm) := by
  intro h
  simp only [Instr.WellFormed, Instr.regs, Reg.Valid, List.forall_mem_cons, List.not_mem_nil, false_implies, implies_true, and_true] at h
  simp [encodeFields, decodeRow, decodeFields, decodeAlu, regImm, demand, noOff, Reg.ok, h]

theorem arshXAlu (dst : Reg) (src : Reg) : Statement (.arshXAlu dst src) := by
  intro h
  simp only [Instr.WellFormed, Instr.regs, Reg.Valid, List.forall_mem_cons, List.not_mem_nil, false_implies, implies_true, and_true] at h
  simp [encodeFields, decodeRow, decodeFields, decodeAlu, regReg, demand, noOff, Reg.ok, h]

theorem addKAlu64 (dst : Reg) (imm : Imm) : Statement (.addKAlu64 dst imm) := by
  intro h
  simp only [Instr.WellFormed, Instr.regs, Reg.Valid, List.forall_mem_cons, List.not_mem_nil, false_implies, implies_true, and_true] at h
  simp [encodeFields, decodeRow, decodeFields, decodeAlu64, regImm, demand, noOff, Reg.ok, h]

theorem addXAlu64 (dst : Reg) (src : Reg) : Statement (.addXAlu64 dst src) := by
  intro h
  simp only [Instr.WellFormed, Instr.regs, Reg.Valid, List.forall_mem_cons, List.not_mem_nil, false_implies, implies_true, and_true] at h
  simp [encodeFields, decodeRow, decodeFields, decodeAlu64, regReg, demand, noOff, Reg.ok, h]

theorem subKAlu64 (dst : Reg) (imm : Imm) : Statement (.subKAlu64 dst imm) := by
  intro h
  simp only [Instr.WellFormed, Instr.regs, Reg.Valid, List.forall_mem_cons, List.not_mem_nil, false_implies, implies_true, and_true] at h
  simp [encodeFields, decodeRow, decodeFields, decodeAlu64, regImm, demand, noOff, Reg.ok, h]

theorem subXAlu64 (dst : Reg) (src : Reg) : Statement (.subXAlu64 dst src) := by
  intro h
  simp only [Instr.WellFormed, Instr.regs, Reg.Valid, List.forall_mem_cons, List.not_mem_nil, false_implies, implies_true, and_true] at h
  simp [encodeFields, decodeRow, decodeFields, decodeAlu64, regReg, demand, noOff, Reg.ok, h]

theorem mulKAlu64 (dst : Reg) (imm : Imm) : Statement (.mulKAlu64 dst imm) := by
  intro h
  simp only [Instr.WellFormed, Instr.regs, Reg.Valid, List.forall_mem_cons, List.not_mem_nil, false_implies, implies_true, and_true] at h
  simp [encodeFields, decodeRow, decodeFields, decodeAlu64, regImm, demand, noOff, Reg.ok, h]

theorem mulXAlu64 (dst : Reg) (src : Reg) : Statement (.mulXAlu64 dst src) := by
  intro h
  simp only [Instr.WellFormed, Instr.regs, Reg.Valid, List.forall_mem_cons, List.not_mem_nil, false_implies, implies_true, and_true] at h
  simp [encodeFields, decodeRow, decodeFields, decodeAlu64, regReg, demand, noOff, Reg.ok, h]

theorem divKAlu64 (dst : Reg) (imm : Imm) : Statement (.divKAlu64 dst imm) := by
  intro h
  simp only [Instr.WellFormed, Instr.regs, Reg.Valid, List.forall_mem_cons, List.not_mem_nil, false_implies, implies_true, and_true] at h
  simp [encodeFields, decodeRow, decodeFields, decodeAlu64, regImm, demand, Reg.ok, h]

theorem divXAlu64 (dst : Reg) (src : Reg) : Statement (.divXAlu64 dst src) := by
  intro h
  simp only [Instr.WellFormed, Instr.regs, Reg.Valid, List.forall_mem_cons, List.not_mem_nil, false_implies, implies_true, and_true] at h
  simp [encodeFields, decodeRow, decodeFields, decodeAlu64, regReg, demand, Reg.ok, h]

theorem sdivKAlu64 (dst : Reg) (imm : Imm) : Statement (.sdivKAlu64 dst imm) := by
  intro h
  simp only [Instr.WellFormed, Instr.regs, Reg.Valid, List.forall_mem_cons, List.not_mem_nil, false_implies, implies_true, and_true] at h
  simp [encodeFields, decodeRow, decodeFields, decodeAlu64, regImm, demand, Reg.ok, h]

theorem sdivXAlu64 (dst : Reg) (src : Reg) : Statement (.sdivXAlu64 dst src) := by
  intro h
  simp only [Instr.WellFormed, Instr.regs, Reg.Valid, List.forall_mem_cons, List.not_mem_nil, false_implies, implies_true, and_true] at h
  simp [encodeFields, decodeRow, decodeFields, decodeAlu64, regReg, demand, Reg.ok, h]

theorem orKAlu64 (dst : Reg) (imm : Imm) : Statement (.orKAlu64 dst imm) := by
  intro h
  simp only [Instr.WellFormed, Instr.regs, Reg.Valid, List.forall_mem_cons, List.not_mem_nil, false_implies, implies_true, and_true] at h
  simp [encodeFields, decodeRow, decodeFields, decodeAlu64, regImm, demand, noOff, Reg.ok, h]

theorem orXAlu64 (dst : Reg) (src : Reg) : Statement (.orXAlu64 dst src) := by
  intro h
  simp only [Instr.WellFormed, Instr.regs, Reg.Valid, List.forall_mem_cons, List.not_mem_nil, false_implies, implies_true, and_true] at h
  simp [encodeFields, decodeRow, decodeFields, decodeAlu64, regReg, demand, noOff, Reg.ok, h]

theorem andKAlu64 (dst : Reg) (imm : Imm) : Statement (.andKAlu64 dst imm) := by
  intro h
  simp only [Instr.WellFormed, Instr.regs, Reg.Valid, List.forall_mem_cons, List.not_mem_nil, false_implies, implies_true, and_true] at h
  simp [encodeFields, decodeRow, decodeFields, decodeAlu64, regImm, demand, noOff, Reg.ok, h]

theorem andXAlu64 (dst : Reg) (src : Reg) : Statement (.andXAlu64 dst src) := by
  intro h
  simp only [Instr.WellFormed, Instr.regs, Reg.Valid, List.forall_mem_cons, List.not_mem_nil, false_implies, implies_true, and_true] at h
  simp [encodeFields, decodeRow, decodeFields, decodeAlu64, regReg, demand, noOff, Reg.ok, h]

theorem lshKAlu64 (dst : Reg) (imm : Imm) : Statement (.lshKAlu64 dst imm) := by
  intro h
  simp only [Instr.WellFormed, Instr.regs, Reg.Valid, List.forall_mem_cons, List.not_mem_nil, false_implies, implies_true, and_true] at h
  simp [encodeFields, decodeRow, decodeFields, decodeAlu64, regImm, demand, noOff, Reg.ok, h]

theorem lshXAlu64 (dst : Reg) (src : Reg) : Statement (.lshXAlu64 dst src) := by
  intro h
  simp only [Instr.WellFormed, Instr.regs, Reg.Valid, List.forall_mem_cons, List.not_mem_nil, false_implies, implies_true, and_true] at h
  simp [encodeFields, decodeRow, decodeFields, decodeAlu64, regReg, demand, noOff, Reg.ok, h]

theorem rshKAlu64 (dst : Reg) (imm : Imm) : Statement (.rshKAlu64 dst imm) := by
  intro h
  simp only [Instr.WellFormed, Instr.regs, Reg.Valid, List.forall_mem_cons, List.not_mem_nil, false_implies, implies_true, and_true] at h
  simp [encodeFields, decodeRow, decodeFields, decodeAlu64, regImm, demand, noOff, Reg.ok, h]

theorem rshXAlu64 (dst : Reg) (src : Reg) : Statement (.rshXAlu64 dst src) := by
  intro h
  simp only [Instr.WellFormed, Instr.regs, Reg.Valid, List.forall_mem_cons, List.not_mem_nil, false_implies, implies_true, and_true] at h
  simp [encodeFields, decodeRow, decodeFields, decodeAlu64, regReg, demand, noOff, Reg.ok, h]

theorem negKAlu64 (dst : Reg) : Statement (.negKAlu64 dst) := by
  intro h
  simp only [Instr.WellFormed, Instr.regs, Reg.Valid, List.forall_mem_cons, List.not_mem_nil, false_implies, implies_true, and_true] at h
  simp [encodeFields, decodeRow, decodeFields, decodeAlu64, reg1, demand, noOff, Reg.ok, h]

theorem modKAlu64 (dst : Reg) (imm : Imm) : Statement (.modKAlu64 dst imm) := by
  intro h
  simp only [Instr.WellFormed, Instr.regs, Reg.Valid, List.forall_mem_cons, List.not_mem_nil, false_implies, implies_true, and_true] at h
  simp [encodeFields, decodeRow, decodeFields, decodeAlu64, regImm, demand, Reg.ok, h]

theorem modXAlu64 (dst : Reg) (src : Reg) : Statement (.modXAlu64 dst src) := by
  intro h
  simp only [Instr.WellFormed, Instr.regs, Reg.Valid, List.forall_mem_cons, List.not_mem_nil, false_implies, implies_true, and_true] at h
  simp [encodeFields, decodeRow, decodeFields, decodeAlu64, regReg, demand, Reg.ok, h]

theorem smodKAlu64 (dst : Reg) (imm : Imm) : Statement (.smodKAlu64 dst imm) := by
  intro h
  simp only [Instr.WellFormed, Instr.regs, Reg.Valid, List.forall_mem_cons, List.not_mem_nil, false_implies, implies_true, and_true] at h
  simp [encodeFields, decodeRow, decodeFields, decodeAlu64, regImm, demand, Reg.ok, h]

theorem smodXAlu64 (dst : Reg) (src : Reg) : Statement (.smodXAlu64 dst src) := by
  intro h
  simp only [Instr.WellFormed, Instr.regs, Reg.Valid, List.forall_mem_cons, List.not_mem_nil, false_implies, implies_true, and_true] at h
  simp [encodeFields, decodeRow, decodeFields, decodeAlu64, regReg, demand, Reg.ok, h]

theorem xorKAlu64 (dst : Reg) (imm : Imm) : Statement (.xorKAlu64 dst imm) := by
  intro h
  simp only [Instr.WellFormed, Instr.regs, Reg.Valid, List.forall_mem_cons, List.not_mem_nil, false_implies, implies_true, and_true] at h
  simp [encodeFields, decodeRow, decodeFields, decodeAlu64, regImm, demand, noOff, Reg.ok, h]

theorem xorXAlu64 (dst : Reg) (src : Reg) : Statement (.xorXAlu64 dst src) := by
  intro h
  simp only [Instr.WellFormed, Instr.regs, Reg.Valid, List.forall_mem_cons, List.not_mem_nil, false_implies, implies_true, and_true] at h
  simp [encodeFields, decodeRow, decodeFields, decodeAlu64, regReg, demand, noOff, Reg.ok, h]

theorem movKAlu64 (dst : Reg) (imm : Imm) : Statement (.movKAlu64 dst imm) := by
  intro h
  simp only [Instr.WellFormed, Instr.regs, Reg.Valid, List.forall_mem_cons, List.not_mem_nil, false_implies, implies_true, and_true] at h
  simp [encodeFields, decodeRow, decodeFields, decodeAlu64, regImm, demand, noOff, Reg.ok, h]

theorem movXAlu64 (dst : Reg) (src : Reg) : Statement (.movXAlu64 dst src) := by
  intro h
  simp only [Instr.WellFormed, Instr.regs, Reg.Valid, List.forall_mem_cons, List.not_mem_nil, false_implies, implies_true, and_true] at h
  simp [encodeFields, decodeRow, decodeFields, decodeAlu64, regReg, demand, Reg.ok, h]

theorem movsx8XAlu64 (dst : Reg) (src : Reg) : Statement (.movsx8XAlu64 dst src) := by
  intro h
  simp only [Instr.WellFormed, Instr.regs, Reg.Valid, List.forall_mem_cons, List.not_mem_nil, false_implies, implies_true, and_true] at h
  simp [encodeFields, decodeRow, decodeFields, decodeAlu64, regReg, demand, Reg.ok, h]

theorem movsx16XAlu64 (dst : Reg) (src : Reg) : Statement (.movsx16XAlu64 dst src) := by
  intro h
  simp only [Instr.WellFormed, Instr.regs, Reg.Valid, List.forall_mem_cons, List.not_mem_nil, false_implies, implies_true, and_true] at h
  simp [encodeFields, decodeRow, decodeFields, decodeAlu64, regReg, demand, Reg.ok, h]

theorem movsx32XAlu64 (dst : Reg) (src : Reg) : Statement (.movsx32XAlu64 dst src) := by
  intro h
  simp only [Instr.WellFormed, Instr.regs, Reg.Valid, List.forall_mem_cons, List.not_mem_nil, false_implies, implies_true, and_true] at h
  simp [encodeFields, decodeRow, decodeFields, decodeAlu64, regReg, demand, Reg.ok, h]

theorem arshKAlu64 (dst : Reg) (imm : Imm) : Statement (.arshKAlu64 dst imm) := by
  intro h
  simp only [Instr.WellFormed, Instr.regs, Reg.Valid, List.forall_mem_cons, List.not_mem_nil, false_implies, implies_true, and_true] at h
  simp [encodeFields, decodeRow, decodeFields, decodeAlu64, regImm, demand, noOff, Reg.ok, h]

theorem arshXAlu64 (dst : Reg) (src : Reg) : Statement (.arshXAlu64 dst src) := by
  intro h
  simp only [Instr.WellFormed, Instr.regs, Reg.Valid, List.forall_mem_cons, List.not_mem_nil, false_implies, implies_true, and_true] at h
  simp [encodeFields, decodeRow, decodeFields, decodeAlu64, regReg, demand, noOff, Reg.ok, h]

theorem endLeAlu16 (dst : Reg) : Statement (.endLeAlu16 dst) := by
  intro h
  simp only [Instr.WellFormed, Instr.regs, Reg.Valid, List.forall_mem_cons, List.not_mem_nil, false_implies, implies_true, and_true] at h
  simp [encodeFields, decodeRow, decodeFields, decodeAlu, regWidth, demand, Reg.ok, h]

theorem endLeAlu32 (dst : Reg) : Statement (.endLeAlu32 dst) := by
  intro h
  simp only [Instr.WellFormed, Instr.regs, Reg.Valid, List.forall_mem_cons, List.not_mem_nil, false_implies, implies_true, and_true] at h
  simp [encodeFields, decodeRow, decodeFields, decodeAlu, regWidth, demand, Reg.ok, h]

theorem endLeAlu64 (dst : Reg) : Statement (.endLeAlu64 dst) := by
  intro h
  simp only [Instr.WellFormed, Instr.regs, Reg.Valid, List.forall_mem_cons, List.not_mem_nil, false_implies, implies_true, and_true] at h
  simp [encodeFields, decodeRow, decodeFields, decodeAlu, regWidth, demand, Reg.ok, h]

theorem endBeAlu16 (dst : Reg) : Statement (.endBeAlu16 dst) := by
  intro h
  simp only [Instr.WellFormed, Instr.regs, Reg.Valid, List.forall_mem_cons, List.not_mem_nil, false_implies, implies_true, and_true] at h
  simp [encodeFields, decodeRow, decodeFields, decodeAlu, regWidth, demand, Reg.ok, h]

theorem endBeAlu32 (dst : Reg) : Statement (.endBeAlu32 dst) := by
  intro h
  simp only [Instr.WellFormed, Instr.regs, Reg.Valid, List.forall_mem_cons, List.not_mem_nil, false_implies, implies_true, and_true] at h
  simp [encodeFields, decodeRow, decodeFields, decodeAlu, regWidth, demand, Reg.ok, h]

theorem endBeAlu64 (dst : Reg) : Statement (.endBeAlu64 dst) := by
  intro h
  simp only [Instr.WellFormed, Instr.regs, Reg.Valid, List.forall_mem_cons, List.not_mem_nil, false_implies, implies_true, and_true] at h
  simp [encodeFields, decodeRow, decodeFields, decodeAlu, regWidth, demand, Reg.ok, h]

theorem endToAlu6416 (dst : Reg) : Statement (.endToAlu6416 dst) := by
  intro h
  simp only [Instr.WellFormed, Instr.regs, Reg.Valid, List.forall_mem_cons, List.not_mem_nil, false_implies, implies_true, and_true] at h
  simp [encodeFields, decodeRow, decodeFields, decodeAlu64, regWidth, demand, Reg.ok, h]

theorem endToAlu6432 (dst : Reg) : Statement (.endToAlu6432 dst) := by
  intro h
  simp only [Instr.WellFormed, Instr.regs, Reg.Valid, List.forall_mem_cons, List.not_mem_nil, false_implies, implies_true, and_true] at h
  simp [encodeFields, decodeRow, decodeFields, decodeAlu64, regWidth, demand, Reg.ok, h]

theorem endToAlu6464 (dst : Reg) : Statement (.endToAlu6464 dst) := by
  intro h
  simp only [Instr.WellFormed, Instr.regs, Reg.Valid, List.forall_mem_cons, List.not_mem_nil, false_implies, implies_true, and_true] at h
  simp [encodeFields, decodeRow, decodeFields, decodeAlu64, regWidth, demand, Reg.ok, h]

theorem jaKJmp (off : Off) : Statement (.jaKJmp off) := by
  intro _
  simp [encodeFields, decodeRow, decodeFields, decodeJmp, gotoOff, demand]

theorem jaKJmp32 (imm : Imm) : Statement (.jaKJmp32 imm) := by
  intro _
  simp [encodeFields, decodeRow, decodeFields, decodeJmp32, gotoImm, demand]

theorem jeqKJmp (dst : Reg) (imm : Imm) (off : Off) : Statement (.jeqKJmp dst imm off) := by
  intro h
  simp only [Instr.WellFormed, Instr.regs, Reg.Valid, List.forall_mem_cons, List.not_mem_nil, false_implies, implies_true, and_true] at h
  simp [encodeFields, decodeRow, decodeFields, decodeJmp, branchImm, demand, Reg.ok, h]

theorem jeqXJmp (dst : Reg) (src : Reg) (off : Off) : Statement (.jeqXJmp dst src off) := by
  intro h
  simp only [Instr.WellFormed, Instr.regs, Reg.Valid, List.forall_mem_cons, List.not_mem_nil, false_implies, implies_true, and_true] at h
  simp [encodeFields, decodeRow, decodeFields, decodeJmp, branchReg, demand, Reg.ok, h]

theorem jeqKJmp32 (dst : Reg) (imm : Imm) (off : Off) : Statement (.jeqKJmp32 dst imm off) := by
  intro h
  simp only [Instr.WellFormed, Instr.regs, Reg.Valid, List.forall_mem_cons, List.not_mem_nil, false_implies, implies_true, and_true] at h
  simp [encodeFields, decodeRow, decodeFields, decodeJmp32, branchImm, demand, Reg.ok, h]

theorem jeqXJmp32 (dst : Reg) (src : Reg) (off : Off) : Statement (.jeqXJmp32 dst src off) := by
  intro h
  simp only [Instr.WellFormed, Instr.regs, Reg.Valid, List.forall_mem_cons, List.not_mem_nil, false_implies, implies_true, and_true] at h
  simp [encodeFields, decodeRow, decodeFields, decodeJmp32, branchReg, demand, Reg.ok, h]

theorem jgtKJmp (dst : Reg) (imm : Imm) (off : Off) : Statement (.jgtKJmp dst imm off) := by
  intro h
  simp only [Instr.WellFormed, Instr.regs, Reg.Valid, List.forall_mem_cons, List.not_mem_nil, false_implies, implies_true, and_true] at h
  simp [encodeFields, decodeRow, decodeFields, decodeJmp, branchImm, demand, Reg.ok, h]

theorem jgtXJmp (dst : Reg) (src : Reg) (off : Off) : Statement (.jgtXJmp dst src off) := by
  intro h
  simp only [Instr.WellFormed, Instr.regs, Reg.Valid, List.forall_mem_cons, List.not_mem_nil, false_implies, implies_true, and_true] at h
  simp [encodeFields, decodeRow, decodeFields, decodeJmp, branchReg, demand, Reg.ok, h]

theorem jgtKJmp32 (dst : Reg) (imm : Imm) (off : Off) : Statement (.jgtKJmp32 dst imm off) := by
  intro h
  simp only [Instr.WellFormed, Instr.regs, Reg.Valid, List.forall_mem_cons, List.not_mem_nil, false_implies, implies_true, and_true] at h
  simp [encodeFields, decodeRow, decodeFields, decodeJmp32, branchImm, demand, Reg.ok, h]

theorem jgtXJmp32 (dst : Reg) (src : Reg) (off : Off) : Statement (.jgtXJmp32 dst src off) := by
  intro h
  simp only [Instr.WellFormed, Instr.regs, Reg.Valid, List.forall_mem_cons, List.not_mem_nil, false_implies, implies_true, and_true] at h
  simp [encodeFields, decodeRow, decodeFields, decodeJmp32, branchReg, demand, Reg.ok, h]

theorem jgeKJmp (dst : Reg) (imm : Imm) (off : Off) : Statement (.jgeKJmp dst imm off) := by
  intro h
  simp only [Instr.WellFormed, Instr.regs, Reg.Valid, List.forall_mem_cons, List.not_mem_nil, false_implies, implies_true, and_true] at h
  simp [encodeFields, decodeRow, decodeFields, decodeJmp, branchImm, demand, Reg.ok, h]

theorem jgeXJmp (dst : Reg) (src : Reg) (off : Off) : Statement (.jgeXJmp dst src off) := by
  intro h
  simp only [Instr.WellFormed, Instr.regs, Reg.Valid, List.forall_mem_cons, List.not_mem_nil, false_implies, implies_true, and_true] at h
  simp [encodeFields, decodeRow, decodeFields, decodeJmp, branchReg, demand, Reg.ok, h]

theorem jgeKJmp32 (dst : Reg) (imm : Imm) (off : Off) : Statement (.jgeKJmp32 dst imm off) := by
  intro h
  simp only [Instr.WellFormed, Instr.regs, Reg.Valid, List.forall_mem_cons, List.not_mem_nil, false_implies, implies_true, and_true] at h
  simp [encodeFields, decodeRow, decodeFields, decodeJmp32, branchImm, demand, Reg.ok, h]

theorem jgeXJmp32 (dst : Reg) (src : Reg) (off : Off) : Statement (.jgeXJmp32 dst src off) := by
  intro h
  simp only [Instr.WellFormed, Instr.regs, Reg.Valid, List.forall_mem_cons, List.not_mem_nil, false_implies, implies_true, and_true] at h
  simp [encodeFields, decodeRow, decodeFields, decodeJmp32, branchReg, demand, Reg.ok, h]

theorem jsetKJmp (dst : Reg) (imm : Imm) (off : Off) : Statement (.jsetKJmp dst imm off) := by
  intro h
  simp only [Instr.WellFormed, Instr.regs, Reg.Valid, List.forall_mem_cons, List.not_mem_nil, false_implies, implies_true, and_true] at h
  simp [encodeFields, decodeRow, decodeFields, decodeJmp, branchImm, demand, Reg.ok, h]

theorem jsetXJmp (dst : Reg) (src : Reg) (off : Off) : Statement (.jsetXJmp dst src off) := by
  intro h
  simp only [Instr.WellFormed, Instr.regs, Reg.Valid, List.forall_mem_cons, List.not_mem_nil, false_implies, implies_true, and_true] at h
  simp [encodeFields, decodeRow, decodeFields, decodeJmp, branchReg, demand, Reg.ok, h]

theorem jsetKJmp32 (dst : Reg) (imm : Imm) (off : Off) : Statement (.jsetKJmp32 dst imm off) := by
  intro h
  simp only [Instr.WellFormed, Instr.regs, Reg.Valid, List.forall_mem_cons, List.not_mem_nil, false_implies, implies_true, and_true] at h
  simp [encodeFields, decodeRow, decodeFields, decodeJmp32, branchImm, demand, Reg.ok, h]

theorem jsetXJmp32 (dst : Reg) (src : Reg) (off : Off) : Statement (.jsetXJmp32 dst src off) := by
  intro h
  simp only [Instr.WellFormed, Instr.regs, Reg.Valid, List.forall_mem_cons, List.not_mem_nil, false_implies, implies_true, and_true] at h
  simp [encodeFields, decodeRow, decodeFields, decodeJmp32, branchReg, demand, Reg.ok, h]

theorem jneKJmp (dst : Reg) (imm : Imm) (off : Off) : Statement (.jneKJmp dst imm off) := by
  intro h
  simp only [Instr.WellFormed, Instr.regs, Reg.Valid, List.forall_mem_cons, List.not_mem_nil, false_implies, implies_true, and_true] at h
  simp [encodeFields, decodeRow, decodeFields, decodeJmp, branchImm, demand, Reg.ok, h]

theorem jneXJmp (dst : Reg) (src : Reg) (off : Off) : Statement (.jneXJmp dst src off) := by
  intro h
  simp only [Instr.WellFormed, Instr.regs, Reg.Valid, List.forall_mem_cons, List.not_mem_nil, false_implies, implies_true, and_true] at h
  simp [encodeFields, decodeRow, decodeFields, decodeJmp, branchReg, demand, Reg.ok, h]

theorem jneKJmp32 (dst : Reg) (imm : Imm) (off : Off) : Statement (.jneKJmp32 dst imm off) := by
  intro h
  simp only [Instr.WellFormed, Instr.regs, Reg.Valid, List.forall_mem_cons, List.not_mem_nil, false_implies, implies_true, and_true] at h
  simp [encodeFields, decodeRow, decodeFields, decodeJmp32, branchImm, demand, Reg.ok, h]

theorem jneXJmp32 (dst : Reg) (src : Reg) (off : Off) : Statement (.jneXJmp32 dst src off) := by
  intro h
  simp only [Instr.WellFormed, Instr.regs, Reg.Valid, List.forall_mem_cons, List.not_mem_nil, false_implies, implies_true, and_true] at h
  simp [encodeFields, decodeRow, decodeFields, decodeJmp32, branchReg, demand, Reg.ok, h]

theorem jsgtKJmp (dst : Reg) (imm : Imm) (off : Off) : Statement (.jsgtKJmp dst imm off) := by
  intro h
  simp only [Instr.WellFormed, Instr.regs, Reg.Valid, List.forall_mem_cons, List.not_mem_nil, false_implies, implies_true, and_true] at h
  simp [encodeFields, decodeRow, decodeFields, decodeJmp, branchImm, demand, Reg.ok, h]

theorem jsgtXJmp (dst : Reg) (src : Reg) (off : Off) : Statement (.jsgtXJmp dst src off) := by
  intro h
  simp only [Instr.WellFormed, Instr.regs, Reg.Valid, List.forall_mem_cons, List.not_mem_nil, false_implies, implies_true, and_true] at h
  simp [encodeFields, decodeRow, decodeFields, decodeJmp, branchReg, demand, Reg.ok, h]

theorem jsgtKJmp32 (dst : Reg) (imm : Imm) (off : Off) : Statement (.jsgtKJmp32 dst imm off) := by
  intro h
  simp only [Instr.WellFormed, Instr.regs, Reg.Valid, List.forall_mem_cons, List.not_mem_nil, false_implies, implies_true, and_true] at h
  simp [encodeFields, decodeRow, decodeFields, decodeJmp32, branchImm, demand, Reg.ok, h]

theorem jsgtXJmp32 (dst : Reg) (src : Reg) (off : Off) : Statement (.jsgtXJmp32 dst src off) := by
  intro h
  simp only [Instr.WellFormed, Instr.regs, Reg.Valid, List.forall_mem_cons, List.not_mem_nil, false_implies, implies_true, and_true] at h
  simp [encodeFields, decodeRow, decodeFields, decodeJmp32, branchReg, demand, Reg.ok, h]

theorem jsgeKJmp (dst : Reg) (imm : Imm) (off : Off) : Statement (.jsgeKJmp dst imm off) := by
  intro h
  simp only [Instr.WellFormed, Instr.regs, Reg.Valid, List.forall_mem_cons, List.not_mem_nil, false_implies, implies_true, and_true] at h
  simp [encodeFields, decodeRow, decodeFields, decodeJmp, branchImm, demand, Reg.ok, h]

theorem jsgeXJmp (dst : Reg) (src : Reg) (off : Off) : Statement (.jsgeXJmp dst src off) := by
  intro h
  simp only [Instr.WellFormed, Instr.regs, Reg.Valid, List.forall_mem_cons, List.not_mem_nil, false_implies, implies_true, and_true] at h
  simp [encodeFields, decodeRow, decodeFields, decodeJmp, branchReg, demand, Reg.ok, h]

theorem jsgeKJmp32 (dst : Reg) (imm : Imm) (off : Off) : Statement (.jsgeKJmp32 dst imm off) := by
  intro h
  simp only [Instr.WellFormed, Instr.regs, Reg.Valid, List.forall_mem_cons, List.not_mem_nil, false_implies, implies_true, and_true] at h
  simp [encodeFields, decodeRow, decodeFields, decodeJmp32, branchImm, demand, Reg.ok, h]

theorem jsgeXJmp32 (dst : Reg) (src : Reg) (off : Off) : Statement (.jsgeXJmp32 dst src off) := by
  intro h
  simp only [Instr.WellFormed, Instr.regs, Reg.Valid, List.forall_mem_cons, List.not_mem_nil, false_implies, implies_true, and_true] at h
  simp [encodeFields, decodeRow, decodeFields, decodeJmp32, branchReg, demand, Reg.ok, h]

theorem jltKJmp (dst : Reg) (imm : Imm) (off : Off) : Statement (.jltKJmp dst imm off) := by
  intro h
  simp only [Instr.WellFormed, Instr.regs, Reg.Valid, List.forall_mem_cons, List.not_mem_nil, false_implies, implies_true, and_true] at h
  simp [encodeFields, decodeRow, decodeFields, decodeJmp, branchImm, demand, Reg.ok, h]

theorem jltXJmp (dst : Reg) (src : Reg) (off : Off) : Statement (.jltXJmp dst src off) := by
  intro h
  simp only [Instr.WellFormed, Instr.regs, Reg.Valid, List.forall_mem_cons, List.not_mem_nil, false_implies, implies_true, and_true] at h
  simp [encodeFields, decodeRow, decodeFields, decodeJmp, branchReg, demand, Reg.ok, h]

theorem jltKJmp32 (dst : Reg) (imm : Imm) (off : Off) : Statement (.jltKJmp32 dst imm off) := by
  intro h
  simp only [Instr.WellFormed, Instr.regs, Reg.Valid, List.forall_mem_cons, List.not_mem_nil, false_implies, implies_true, and_true] at h
  simp [encodeFields, decodeRow, decodeFields, decodeJmp32, branchImm, demand, Reg.ok, h]

theorem jltXJmp32 (dst : Reg) (src : Reg) (off : Off) : Statement (.jltXJmp32 dst src off) := by
  intro h
  simp only [Instr.WellFormed, Instr.regs, Reg.Valid, List.forall_mem_cons, List.not_mem_nil, false_implies, implies_true, and_true] at h
  simp [encodeFields, decodeRow, decodeFields, decodeJmp32, branchReg, demand, Reg.ok, h]

theorem jleKJmp (dst : Reg) (imm : Imm) (off : Off) : Statement (.jleKJmp dst imm off) := by
  intro h
  simp only [Instr.WellFormed, Instr.regs, Reg.Valid, List.forall_mem_cons, List.not_mem_nil, false_implies, implies_true, and_true] at h
  simp [encodeFields, decodeRow, decodeFields, decodeJmp, branchImm, demand, Reg.ok, h]

theorem jleXJmp (dst : Reg) (src : Reg) (off : Off) : Statement (.jleXJmp dst src off) := by
  intro h
  simp only [Instr.WellFormed, Instr.regs, Reg.Valid, List.forall_mem_cons, List.not_mem_nil, false_implies, implies_true, and_true] at h
  simp [encodeFields, decodeRow, decodeFields, decodeJmp, branchReg, demand, Reg.ok, h]

theorem jleKJmp32 (dst : Reg) (imm : Imm) (off : Off) : Statement (.jleKJmp32 dst imm off) := by
  intro h
  simp only [Instr.WellFormed, Instr.regs, Reg.Valid, List.forall_mem_cons, List.not_mem_nil, false_implies, implies_true, and_true] at h
  simp [encodeFields, decodeRow, decodeFields, decodeJmp32, branchImm, demand, Reg.ok, h]

theorem jleXJmp32 (dst : Reg) (src : Reg) (off : Off) : Statement (.jleXJmp32 dst src off) := by
  intro h
  simp only [Instr.WellFormed, Instr.regs, Reg.Valid, List.forall_mem_cons, List.not_mem_nil, false_implies, implies_true, and_true] at h
  simp [encodeFields, decodeRow, decodeFields, decodeJmp32, branchReg, demand, Reg.ok, h]

theorem jsltKJmp (dst : Reg) (imm : Imm) (off : Off) : Statement (.jsltKJmp dst imm off) := by
  intro h
  simp only [Instr.WellFormed, Instr.regs, Reg.Valid, List.forall_mem_cons, List.not_mem_nil, false_implies, implies_true, and_true] at h
  simp [encodeFields, decodeRow, decodeFields, decodeJmp, branchImm, demand, Reg.ok, h]

theorem jsltXJmp (dst : Reg) (src : Reg) (off : Off) : Statement (.jsltXJmp dst src off) := by
  intro h
  simp only [Instr.WellFormed, Instr.regs, Reg.Valid, List.forall_mem_cons, List.not_mem_nil, false_implies, implies_true, and_true] at h
  simp [encodeFields, decodeRow, decodeFields, decodeJmp, branchReg, demand, Reg.ok, h]

theorem jsltKJmp32 (dst : Reg) (imm : Imm) (off : Off) : Statement (.jsltKJmp32 dst imm off) := by
  intro h
  simp only [Instr.WellFormed, Instr.regs, Reg.Valid, List.forall_mem_cons, List.not_mem_nil, false_implies, implies_true, and_true] at h
  simp [encodeFields, decodeRow, decodeFields, decodeJmp32, branchImm, demand, Reg.ok, h]

theorem jsltXJmp32 (dst : Reg) (src : Reg) (off : Off) : Statement (.jsltXJmp32 dst src off) := by
  intro h
  simp only [Instr.WellFormed, Instr.regs, Reg.Valid, List.forall_mem_cons, List.not_mem_nil, false_implies, implies_true, and_true] at h
  simp [encodeFields, decodeRow, decodeFields, decodeJmp32, branchReg, demand, Reg.ok, h]

theorem jsleKJmp (dst : Reg) (imm : Imm) (off : Off) : Statement (.jsleKJmp dst imm off) := by
  intro h
  simp only [Instr.WellFormed, Instr.regs, Reg.Valid, List.forall_mem_cons, List.not_mem_nil, false_implies, implies_true, and_true] at h
  simp [encodeFields, decodeRow, decodeFields, decodeJmp, branchImm, demand, Reg.ok, h]

theorem jsleXJmp (dst : Reg) (src : Reg) (off : Off) : Statement (.jsleXJmp dst src off) := by
  intro h
  simp only [Instr.WellFormed, Instr.regs, Reg.Valid, List.forall_mem_cons, List.not_mem_nil, false_implies, implies_true, and_true] at h
  simp [encodeFields, decodeRow, decodeFields, decodeJmp, branchReg, demand, Reg.ok, h]

theorem jsleKJmp32 (dst : Reg) (imm : Imm) (off : Off) : Statement (.jsleKJmp32 dst imm off) := by
  intro h
  simp only [Instr.WellFormed, Instr.regs, Reg.Valid, List.forall_mem_cons, List.not_mem_nil, false_implies, implies_true, and_true] at h
  simp [encodeFields, decodeRow, decodeFields, decodeJmp32, branchImm, demand, Reg.ok, h]

theorem jsleXJmp32 (dst : Reg) (src : Reg) (off : Off) : Statement (.jsleXJmp32 dst src off) := by
  intro h
  simp only [Instr.WellFormed, Instr.regs, Reg.Valid, List.forall_mem_cons, List.not_mem_nil, false_implies, implies_true, and_true] at h
  simp [encodeFields, decodeRow, decodeFields, decodeJmp32, branchReg, demand, Reg.ok, h]

theorem callKJmpHelper (imm : Imm) : Statement (.callKJmpHelper imm) := by
  intro _
  simp [encodeFields, decodeRow, decodeFields, decodeJmp, callImm, demand]

theorem callKJmpLocal (imm : Imm) : Statement (.callKJmpLocal imm) := by
  intro _
  simp [encodeFields, decodeRow, decodeFields, decodeJmp, callImm, demand]

theorem callKJmpBtf (imm : Imm) : Statement (.callKJmpBtf imm) := by
  intro _
  simp [encodeFields, decodeRow, decodeFields, decodeJmp, callImm, demand]

theorem exitKJmp : Statement .exitKJmp := by
  intro _
  simp [encodeFields, decodeRow, decodeFields, decodeJmp, bare, demand]

theorem memBLdx (dst : Reg) (src : Reg) (off : Off) : Statement (.memBLdx dst src off) := by
  intro h
  simp only [Instr.WellFormed, Instr.regs, Reg.Valid, List.forall_mem_cons, List.not_mem_nil, false_implies, implies_true, and_true] at h
  simp [encodeFields, decodeRow, decodeFields, decodeLdx, regRegOff, demand, Reg.ok, h]

theorem memHLdx (dst : Reg) (src : Reg) (off : Off) : Statement (.memHLdx dst src off) := by
  intro h
  simp only [Instr.WellFormed, Instr.regs, Reg.Valid, List.forall_mem_cons, List.not_mem_nil, false_implies, implies_true, and_true] at h
  simp [encodeFields, decodeRow, decodeFields, decodeLdx, regRegOff, demand, Reg.ok, h]

theorem memWLdx (dst : Reg) (src : Reg) (off : Off) : Statement (.memWLdx dst src off) := by
  intro h
  simp only [Instr.WellFormed, Instr.regs, Reg.Valid, List.forall_mem_cons, List.not_mem_nil, false_implies, implies_true, and_true] at h
  simp [encodeFields, decodeRow, decodeFields, decodeLdx, regRegOff, demand, Reg.ok, h]

theorem memDwLdx (dst : Reg) (src : Reg) (off : Off) : Statement (.memDwLdx dst src off) := by
  intro h
  simp only [Instr.WellFormed, Instr.regs, Reg.Valid, List.forall_mem_cons, List.not_mem_nil, false_implies, implies_true, and_true] at h
  simp [encodeFields, decodeRow, decodeFields, decodeLdx, regRegOff, demand, Reg.ok, h]

theorem memBSt (dst : Reg) (off : Off) (imm : Imm) : Statement (.memBSt dst off imm) := by
  intro h
  simp only [Instr.WellFormed, Instr.regs, Reg.Valid, List.forall_mem_cons, List.not_mem_nil, false_implies, implies_true, and_true] at h
  simp [encodeFields, decodeRow, decodeFields, decodeSt, storeImm, demand, Reg.ok, h]

theorem memHSt (dst : Reg) (off : Off) (imm : Imm) : Statement (.memHSt dst off imm) := by
  intro h
  simp only [Instr.WellFormed, Instr.regs, Reg.Valid, List.forall_mem_cons, List.not_mem_nil, false_implies, implies_true, and_true] at h
  simp [encodeFields, decodeRow, decodeFields, decodeSt, storeImm, demand, Reg.ok, h]

theorem memWSt (dst : Reg) (off : Off) (imm : Imm) : Statement (.memWSt dst off imm) := by
  intro h
  simp only [Instr.WellFormed, Instr.regs, Reg.Valid, List.forall_mem_cons, List.not_mem_nil, false_implies, implies_true, and_true] at h
  simp [encodeFields, decodeRow, decodeFields, decodeSt, storeImm, demand, Reg.ok, h]

theorem memDwSt (dst : Reg) (off : Off) (imm : Imm) : Statement (.memDwSt dst off imm) := by
  intro h
  simp only [Instr.WellFormed, Instr.regs, Reg.Valid, List.forall_mem_cons, List.not_mem_nil, false_implies, implies_true, and_true] at h
  simp [encodeFields, decodeRow, decodeFields, decodeSt, storeImm, demand, Reg.ok, h]

theorem memBStx (dst : Reg) (src : Reg) (off : Off) : Statement (.memBStx dst src off) := by
  intro h
  simp only [Instr.WellFormed, Instr.regs, Reg.Valid, List.forall_mem_cons, List.not_mem_nil, false_implies, implies_true, and_true] at h
  simp [encodeFields, decodeRow, decodeFields, decodeStx, regRegOff, demand, Reg.ok, h]

theorem memHStx (dst : Reg) (src : Reg) (off : Off) : Statement (.memHStx dst src off) := by
  intro h
  simp only [Instr.WellFormed, Instr.regs, Reg.Valid, List.forall_mem_cons, List.not_mem_nil, false_implies, implies_true, and_true] at h
  simp [encodeFields, decodeRow, decodeFields, decodeStx, regRegOff, demand, Reg.ok, h]

theorem memWStx (dst : Reg) (src : Reg) (off : Off) : Statement (.memWStx dst src off) := by
  intro h
  simp only [Instr.WellFormed, Instr.regs, Reg.Valid, List.forall_mem_cons, List.not_mem_nil, false_implies, implies_true, and_true] at h
  simp [encodeFields, decodeRow, decodeFields, decodeStx, regRegOff, demand, Reg.ok, h]

theorem memDwStx (dst : Reg) (src : Reg) (off : Off) : Statement (.memDwStx dst src off) := by
  intro h
  simp only [Instr.WellFormed, Instr.regs, Reg.Valid, List.forall_mem_cons, List.not_mem_nil, false_implies, implies_true, and_true] at h
  simp [encodeFields, decodeRow, decodeFields, decodeStx, regRegOff, demand, Reg.ok, h]

theorem memsxBLdx (dst : Reg) (src : Reg) (off : Off) : Statement (.memsxBLdx dst src off) := by
  intro h
  simp only [Instr.WellFormed, Instr.regs, Reg.Valid, List.forall_mem_cons, List.not_mem_nil, false_implies, implies_true, and_true] at h
  simp [encodeFields, decodeRow, decodeFields, decodeLdx, regRegOff, demand, Reg.ok, h]

theorem memsxHLdx (dst : Reg) (src : Reg) (off : Off) : Statement (.memsxHLdx dst src off) := by
  intro h
  simp only [Instr.WellFormed, Instr.regs, Reg.Valid, List.forall_mem_cons, List.not_mem_nil, false_implies, implies_true, and_true] at h
  simp [encodeFields, decodeRow, decodeFields, decodeLdx, regRegOff, demand, Reg.ok, h]

theorem memsxWLdx (dst : Reg) (src : Reg) (off : Off) : Statement (.memsxWLdx dst src off) := by
  intro h
  simp only [Instr.WellFormed, Instr.regs, Reg.Valid, List.forall_mem_cons, List.not_mem_nil, false_implies, implies_true, and_true] at h
  simp [encodeFields, decodeRow, decodeFields, decodeLdx, regRegOff, demand, Reg.ok, h]

theorem atomicWStxAdd (dst : Reg) (src : Reg) (off : Off) : Statement (.atomicWStxAdd dst src off) := by
  intro h
  simp only [Instr.WellFormed, Instr.regs, Reg.Valid, List.forall_mem_cons, List.not_mem_nil, false_implies, implies_true, and_true] at h
  simp [encodeFields, decodeRow, decodeFields, decodeStx, atomicForm, demand, Reg.ok, h]

theorem atomicWStxAddFetch (dst : Reg) (src : Reg) (off : Off) : Statement (.atomicWStxAddFetch dst src off) := by
  intro h
  simp only [Instr.WellFormed, Instr.regs, Reg.Valid, List.forall_mem_cons, List.not_mem_nil, false_implies, implies_true, and_true] at h
  simp [encodeFields, decodeRow, decodeFields, decodeStx, atomicForm, demand, Reg.ok, h]

theorem atomicWStxOr (dst : Reg) (src : Reg) (off : Off) : Statement (.atomicWStxOr dst src off) := by
  intro h
  simp only [Instr.WellFormed, Instr.regs, Reg.Valid, List.forall_mem_cons, List.not_mem_nil, false_implies, implies_true, and_true] at h
  simp [encodeFields, decodeRow, decodeFields, decodeStx, atomicForm, demand, Reg.ok, h]

theorem atomicWStxOrFetch (dst : Reg) (src : Reg) (off : Off) : Statement (.atomicWStxOrFetch dst src off) := by
  intro h
  simp only [Instr.WellFormed, Instr.regs, Reg.Valid, List.forall_mem_cons, List.not_mem_nil, false_implies, implies_true, and_true] at h
  simp [encodeFields, decodeRow, decodeFields, decodeStx, atomicForm, demand, Reg.ok, h]

theorem atomicWStxAnd (dst : Reg) (src : Reg) (off : Off) : Statement (.atomicWStxAnd dst src off) := by
  intro h
  simp only [Instr.WellFormed, Instr.regs, Reg.Valid, List.forall_mem_cons, List.not_mem_nil, false_implies, implies_true, and_true] at h
  simp [encodeFields, decodeRow, decodeFields, decodeStx, atomicForm, demand, Reg.ok, h]

theorem atomicWStxAndFetch (dst : Reg) (src : Reg) (off : Off) : Statement (.atomicWStxAndFetch dst src off) := by
  intro h
  simp only [Instr.WellFormed, Instr.regs, Reg.Valid, List.forall_mem_cons, List.not_mem_nil, false_implies, implies_true, and_true] at h
  simp [encodeFields, decodeRow, decodeFields, decodeStx, atomicForm, demand, Reg.ok, h]

theorem atomicWStxXor (dst : Reg) (src : Reg) (off : Off) : Statement (.atomicWStxXor dst src off) := by
  intro h
  simp only [Instr.WellFormed, Instr.regs, Reg.Valid, List.forall_mem_cons, List.not_mem_nil, false_implies, implies_true, and_true] at h
  simp [encodeFields, decodeRow, decodeFields, decodeStx, atomicForm, demand, Reg.ok, h]

theorem atomicWStxXorFetch (dst : Reg) (src : Reg) (off : Off) : Statement (.atomicWStxXorFetch dst src off) := by
  intro h
  simp only [Instr.WellFormed, Instr.regs, Reg.Valid, List.forall_mem_cons, List.not_mem_nil, false_implies, implies_true, and_true] at h
  simp [encodeFields, decodeRow, decodeFields, decodeStx, atomicForm, demand, Reg.ok, h]

theorem atomicWStxXchg (dst : Reg) (src : Reg) (off : Off) : Statement (.atomicWStxXchg dst src off) := by
  intro h
  simp only [Instr.WellFormed, Instr.regs, Reg.Valid, List.forall_mem_cons, List.not_mem_nil, false_implies, implies_true, and_true] at h
  simp [encodeFields, decodeRow, decodeFields, decodeStx, atomicForm, demand, Reg.ok, h]

theorem atomicWStxCmpxchg (dst : Reg) (src : Reg) (off : Off) : Statement (.atomicWStxCmpxchg dst src off) := by
  intro h
  simp only [Instr.WellFormed, Instr.regs, Reg.Valid, List.forall_mem_cons, List.not_mem_nil, false_implies, implies_true, and_true] at h
  simp [encodeFields, decodeRow, decodeFields, decodeStx, atomicForm, demand, Reg.ok, h]

theorem atomicDwStxAdd (dst : Reg) (src : Reg) (off : Off) : Statement (.atomicDwStxAdd dst src off) := by
  intro h
  simp only [Instr.WellFormed, Instr.regs, Reg.Valid, List.forall_mem_cons, List.not_mem_nil, false_implies, implies_true, and_true] at h
  simp [encodeFields, decodeRow, decodeFields, decodeStx, atomicForm, demand, Reg.ok, h]

theorem atomicDwStxAddFetch (dst : Reg) (src : Reg) (off : Off) : Statement (.atomicDwStxAddFetch dst src off) := by
  intro h
  simp only [Instr.WellFormed, Instr.regs, Reg.Valid, List.forall_mem_cons, List.not_mem_nil, false_implies, implies_true, and_true] at h
  simp [encodeFields, decodeRow, decodeFields, decodeStx, atomicForm, demand, Reg.ok, h]

theorem atomicDwStxOr (dst : Reg) (src : Reg) (off : Off) : Statement (.atomicDwStxOr dst src off) := by
  intro h
  simp only [Instr.WellFormed, Instr.regs, Reg.Valid, List.forall_mem_cons, List.not_mem_nil, false_implies, implies_true, and_true] at h
  simp [encodeFields, decodeRow, decodeFields, decodeStx, atomicForm, demand, Reg.ok, h]

theorem atomicDwStxOrFetch (dst : Reg) (src : Reg) (off : Off) : Statement (.atomicDwStxOrFetch dst src off) := by
  intro h
  simp only [Instr.WellFormed, Instr.regs, Reg.Valid, List.forall_mem_cons, List.not_mem_nil, false_implies, implies_true, and_true] at h
  simp [encodeFields, decodeRow, decodeFields, decodeStx, atomicForm, demand, Reg.ok, h]

theorem atomicDwStxAnd (dst : Reg) (src : Reg) (off : Off) : Statement (.atomicDwStxAnd dst src off) := by
  intro h
  simp only [Instr.WellFormed, Instr.regs, Reg.Valid, List.forall_mem_cons, List.not_mem_nil, false_implies, implies_true, and_true] at h
  simp [encodeFields, decodeRow, decodeFields, decodeStx, atomicForm, demand, Reg.ok, h]

theorem atomicDwStxAndFetch (dst : Reg) (src : Reg) (off : Off) : Statement (.atomicDwStxAndFetch dst src off) := by
  intro h
  simp only [Instr.WellFormed, Instr.regs, Reg.Valid, List.forall_mem_cons, List.not_mem_nil, false_implies, implies_true, and_true] at h
  simp [encodeFields, decodeRow, decodeFields, decodeStx, atomicForm, demand, Reg.ok, h]

theorem atomicDwStxXor (dst : Reg) (src : Reg) (off : Off) : Statement (.atomicDwStxXor dst src off) := by
  intro h
  simp only [Instr.WellFormed, Instr.regs, Reg.Valid, List.forall_mem_cons, List.not_mem_nil, false_implies, implies_true, and_true] at h
  simp [encodeFields, decodeRow, decodeFields, decodeStx, atomicForm, demand, Reg.ok, h]

theorem atomicDwStxXorFetch (dst : Reg) (src : Reg) (off : Off) : Statement (.atomicDwStxXorFetch dst src off) := by
  intro h
  simp only [Instr.WellFormed, Instr.regs, Reg.Valid, List.forall_mem_cons, List.not_mem_nil, false_implies, implies_true, and_true] at h
  simp [encodeFields, decodeRow, decodeFields, decodeStx, atomicForm, demand, Reg.ok, h]

theorem atomicDwStxXchg (dst : Reg) (src : Reg) (off : Off) : Statement (.atomicDwStxXchg dst src off) := by
  intro h
  simp only [Instr.WellFormed, Instr.regs, Reg.Valid, List.forall_mem_cons, List.not_mem_nil, false_implies, implies_true, and_true] at h
  simp [encodeFields, decodeRow, decodeFields, decodeStx, atomicForm, demand, Reg.ok, h]

theorem atomicDwStxCmpxchg (dst : Reg) (src : Reg) (off : Off) : Statement (.atomicDwStxCmpxchg dst src off) := by
  intro h
  simp only [Instr.WellFormed, Instr.regs, Reg.Valid, List.forall_mem_cons, List.not_mem_nil, false_implies, implies_true, and_true] at h
  simp [encodeFields, decodeRow, decodeFields, decodeStx, atomicForm, demand, Reg.ok, h]

theorem immNext (nextImm : Imm) : Statement (.immNext nextImm) := by
  intro _
  simp [encodeFields, decodeRow, decodeSecond, Fields.isNext, demand]

theorem immDwLdImm64 (dst : Reg) (imm : Imm) (nextImm : Imm) : Statement (.immDwLdImm64 dst imm nextImm) := by
  intro h
  simp only [Instr.WellFormed, Instr.regs, Reg.Valid, List.forall_mem_cons, List.not_mem_nil, false_implies, implies_true, and_true] at h
  simp [encodeFields, decodeRow, decodeFields, decodeLd, wide, Fields.isNext, demand, secondSlot, Reg.ok, h]

theorem immDwLdMapfd (dst : Reg) (imm : Imm) : Statement (.immDwLdMapfd dst imm) := by
  intro h
  simp only [Instr.WellFormed, Instr.regs, Reg.Valid, List.forall_mem_cons, List.not_mem_nil, false_implies, implies_true, and_true] at h
  simp [encodeFields, decodeRow, decodeFields, decodeLd, wide, Fields.isNext, demand, secondSlot, noNext, Reg.ok, h]

theorem immDwLdMapfdVal (dst : Reg) (imm : Imm) (nextImm : Imm) : Statement (.immDwLdMapfdVal dst imm nextImm) := by
  intro h
  simp only [Instr.WellFormed, Instr.regs, Reg.Valid, List.forall_mem_cons, List.not_mem_nil, false_implies, implies_true, and_true] at h
  simp [encodeFields, decodeRow, decodeFields, decodeLd, wide, Fields.isNext, demand, secondSlot, Reg.ok, h]

theorem immDwLdVaraddr (dst : Reg) (imm : Imm) : Statement (.immDwLdVaraddr dst imm) := by
  intro h
  simp only [Instr.WellFormed, Instr.regs, Reg.Valid, List.forall_mem_cons, List.not_mem_nil, false_implies, implies_true, and_true] at h
  simp [encodeFields, decodeRow, decodeFields, decodeLd, wide, Fields.isNext, demand, secondSlot, noNext, Reg.ok, h]

theorem immDwLdCodeaddr (dst : Reg) (imm : Imm) : Statement (.immDwLdCodeaddr dst imm) := by
  intro h
  simp only [Instr.WellFormed, Instr.regs, Reg.Valid, List.forall_mem_cons, List.not_mem_nil, false_implies, implies_true, and_true] at h
  simp [encodeFields, decodeRow, decodeFields, decodeLd, wide, Fields.isNext, demand, secondSlot, noNext, Reg.ok, h]

theorem immDwLdMapidx (dst : Reg) (imm : Imm) : Statement (.immDwLdMapidx dst imm) := by
  intro h
  simp only [Instr.WellFormed, Instr.regs, Reg.Valid, List.forall_mem_cons, List.not_mem_nil, false_implies, implies_true, and_true] at h
  simp [encodeFields, decodeRow, decodeFields, decodeLd, wide, Fields.isNext, demand, secondSlot, noNext, Reg.ok, h]

theorem immDwLdMapidxVal (dst : Reg) (imm : Imm) (nextImm : Imm) : Statement (.immDwLdMapidxVal dst imm nextImm) := by
  intro h
  simp only [Instr.WellFormed, Instr.regs, Reg.Valid, List.forall_mem_cons, List.not_mem_nil, false_implies, implies_true, and_true] at h
  simp [encodeFields, decodeRow, decodeFields, decodeLd, wide, Fields.isNext, demand, secondSlot, Reg.ok, h]

theorem absWLd (imm : Imm) : Statement (.absWLd imm) := by
  intro _
  simp [encodeFields, decodeRow, decodeFields, decodeLd, packetAbs, demand]

theorem absHLd (imm : Imm) : Statement (.absHLd imm) := by
  intro _
  simp [encodeFields, decodeRow, decodeFields, decodeLd, packetAbs, demand]

theorem absBLd (imm : Imm) : Statement (.absBLd imm) := by
  intro _
  simp [encodeFields, decodeRow, decodeFields, decodeLd, packetAbs, demand]

theorem indWLd (src : Reg) (imm : Imm) : Statement (.indWLd src imm) := by
  intro h
  simp only [Instr.WellFormed, Instr.regs, Reg.Valid, List.forall_mem_cons, List.not_mem_nil, false_implies, implies_true, and_true] at h
  simp [encodeFields, decodeRow, decodeFields, decodeLd, packetInd, demand, Reg.ok, h]

theorem indHLd (src : Reg) (imm : Imm) : Statement (.indHLd src imm) := by
  intro h
  simp only [Instr.WellFormed, Instr.regs, Reg.Valid, List.forall_mem_cons, List.not_mem_nil, false_implies, implies_true, and_true] at h
  simp [encodeFields, decodeRow, decodeFields, decodeLd, packetInd, demand, Reg.ok, h]

theorem indBLd (src : Reg) (imm : Imm) : Statement (.indBLd src imm) := by
  intro h
  simp only [Instr.WellFormed, Instr.regs, Reg.Valid, List.forall_mem_cons, List.not_mem_nil, false_implies, implies_true, and_true] at h
  simp [encodeFields, decodeRow, decodeFields, decodeLd, packetInd, demand, Reg.ok, h]

end

end Sys2Proof.Laws.FieldRoundTrip
end

