-- ==== Sys2Proof/Laws/Safety.lean ====
section
/-! SUPPORT. The checks of the machine and the terms of the claims are the same. -/

namespace Sys2Proof.Machine

/-- The permission that the machine checks is the one that claims speak of. -/
theorem regionPermits_iff {r : Region} {k : MemKind} : regionPermits r k = true ↔ Allows r k := by
  cases k <;> simp [regionPermits, Allows]

/-- The machine admits exactly the accesses that MemAdmit admits (20_memory.md R66). -/
theorem admits_iff {p : Platform} {a : Word} {n : Nat} {k : MemKind} : admits p a n k = true ↔ Admitted p a n k := by
  simp [admits, Admitted, regionSpans, regionPermits_iff, and_assoc]

/-- The machine performs exactly the accesses that the memory rules perform (20_memory.md R65, R66). -/
theorem checkAccess_iff {p : Platform} {a : Word} {n : Nat} {k : MemKind} {u : Unit} :
    checkAccess p a n k = .ok u ↔ AccessAllowed p a n k := by
  simp only [checkAccess_eq_ok, AccessAllowed, admits_iff]

/-! ### The frame pointer of a callee -/

/-- A byte range meets the stack region below a frame pointer exactly when some byte lies in both. -/
theorem meetsStack_iff {size lo hi : Nat} {top : Word} :
    meetsStack size top lo hi = true ↔ ∃ a : Word, (a.toNat < top.toNat ∧ top.toNat ≤ a.toNat + size) ∧ lo ≤ a.toNat ∧ a.toNat < hi := by
  simp only [meetsStack, decide_eq_true_eq]
  constructor
  · intro h
    have hlt := top.isLt
    refine ⟨BitVec.ofNat 64 (max (top.toNat - size) lo), ?_⟩
    rw [BitVec.toNat_ofNat, Nat.mod_eq_of_lt (by omega)]
    omega
  · rintro ⟨a, h1, h2⟩
    omega

/-- The machine finds a stack supplied exactly where a region supplies it (20_memory.md R66). -/
theorem providesStack_iff {p : Platform} {top : Word} :
    providesStack p top = true ↔ ∃ r ∈ p.regions, r.shared = false ∧ r.readable = true ∧ r.writable = true ∧
      r.base.toNat + p.stackSize ≤ top.toNat ∧ top.toNat ≤ r.base.toNat + r.len := by
  simp [providesStack, and_assoc]

/-- The machine takes for apart exactly the frame pointers that claims call so (44_call_exit.md R345). -/
theorem apartTop_iff {s : State} {top : Word} : apartTop s top = true ↔ ApartTop s top := by
  have hstack (u a : Word) : (u.toNat - s.platform.stackSize ≤ a.toNat ∧ a.toNat < u.toNat) ↔ StackByte s.platform u a := by
    unfold StackByte
    omega
  simp only [apartTop, ApartTop, Bool.and_eq_true, decide_eq_true_eq, List.all_eq_true, Bool.not_eq_true']
  refine and_congr_right fun _ => ⟨fun h a ha u hu hua => ?_, fun h u hu => Bool.eq_false_iff.mpr fun hm => ?_⟩
  · exact Bool.false_ne_true ((h u hu).symm.trans (meetsStack_iff.mpr ⟨a, ha, (hstack u a).mpr hua⟩))
  · obtain ⟨a, ha, hua⟩ := meetsStack_iff.mp hm
    exact h a ha u hu ((hstack u a).mp hua)

/-- The machine takes for private exactly the frame pointers that claims call so. -/
theorem privateTop_iff {s : State} {top : Word} : privateTop s top = true ↔ PrivateTop s top := by
  simp only [privateTop, PrivateTop, Bool.and_eq_true, apartTop_iff, List.all_eq_true, Bool.not_eq_true']
  refine and_congr_right fun _ => ⟨?_, fun h r hr => Bool.eq_false_iff.mpr fun hm => ?_⟩
  · rintro h a ha ⟨r, hr, hs, h1, h2⟩
    have := h r hr
    rw [hs, Bool.true_and] at this
    exact Bool.false_ne_true (this.symm.trans (meetsStack_iff.mpr ⟨a, ha, h1, h2⟩))
  · obtain ⟨hs, hm⟩ := Bool.and_eq_true_iff.mp hm
    obtain ⟨a, ha, h1, h2⟩ := meetsStack_iff.mp hm
    exact h a ha ⟨r, hr, hs, h1, h2⟩

/-- The machine takes for fresh exactly the fresh frame pointers (44_call_exit.md R345). -/
theorem freshTop_iff {s : State} {top : Word} : freshTop s top = true ↔ FreshTop s top := by
  simp only [freshTop, FreshTop, Bool.and_eq_true, privateTop_iff, providesStack_iff]

/-- A callee's frame pointer is fresh wherever a fresh one exists (44_call_exit.md R345). -/
theorem calleeFramePointer_fresh {s : State} (h : ∃ top, FreshTop s top) : FreshTop s (calleeFramePointer s) :=
  freshTop_iff.mp ((calleeFramePointer_spec s).1 (h.imp fun _ => freshTop_iff.mpr))

/-- It is private wherever a private one exists. -/
theorem calleeFramePointer_private {s : State} (h : ∃ top, PrivateTop s top) : PrivateTop s (calleeFramePointer s) :=
  privateTop_iff.mp ((calleeFramePointer_spec s).2.1 (h.imp fun _ => privateTop_iff.mpr))

/-- It is apart from the stacks in use wherever one that is so exists. -/
theorem calleeFramePointer_apart {s : State} (h : ∃ top, ApartTop s top) : ApartTop s (calleeFramePointer s) :=
  apartTop_iff.mp ((calleeFramePointer_spec s).2.2 (h.imp fun _ => apartTop_iff.mpr))

/-- A listed frame pointer that is fresh is the one that the callee is given. -/
theorem calleeFramePointer_listed {s : State} {v : Word} (hv : s.platform.framePointers[s.calls.length]? = some v)
    (hf : FreshTop s v) : calleeFramePointer s = v := by
  simp [calleeFramePointer, stackChoices, hv, freshTop_iff.mpr hf]

end Sys2Proof.Machine
end

