-- ==== Sys2Proof/Tests/Slice0.lean ====
section
/-! SUPPORT. The model's own tests: expected results from 95_test_vectors.md, ill-formed terms, and for every statement with
hypotheses a state and operands that meet them. -/

namespace Sys2Proof.Tests

open Sys2Proof.Machine

/-! ### Helpers -/

/-- The machine after reset with a host byte order, a `pc`, some registers and some memory. -/
def machine (e : Endian) (pc : Int) (regs : List (Reg × Word)) (mem : Memory) : State :=
  regs.foldl (fun s p => s.writeReg p.1 p.2)
    { State.reset with pc := pc, mem := mem, platform := { resetPlatform with endian := e } }

/-- The machine after reset with a program and a `pc`. -/
def running (program : List Slot) (pc : Int) : State := { State.reset with program := program, pc := pc }

/-- MISALIGNED = split. -/
def splitting (s : State) : State := { s with platform := { s.platform with misaligned := .split } }

/-- CallConv = isa_only. -/
def isaOnly (s : State) : State := { s with platform := { s.platform with callConv := .isaOnly } }

/-- No group but base32. -/
def base32Only (s : State) : State :=
  { s with platform := { s.platform with groups := ⟨false, false, false, false, false, false⟩ } }

/-- One region. -/
def within (r : Region) (s : State) : State := { s with platform := { s.platform with regions := [r] } }

/-- What a register holds in the next state. -/
def regOf (r : Result) (q : Reg) : Option Word :=
  match r with
  | .next t => t.reg q
  | _ => none

/-- Where `pc` is in the next state. -/
def pcOf : Result → Option Int
  | .next t => some t.pc
  | _ => none

/-- What memory lists in the next state. -/
def memOf : Result → Option Memory
  | .next t => some t.mem
  | _ => none

/-- The fault. -/
def faultOf : Result → Option Fault
  | .fault f => some f
  | _ => none

/-- Whether there is a next state, of which something holds. -/
def after (p : State → Bool) : Result → Bool
  | .next t => p t
  | _ => false

/-- Whether there is a next state. -/
def goesOn : Result → Bool
  | .next _ => true
  | _ => false

theorem next_of_goesOn {r : Result} (h : goesOn r = true) : ∃ t, r = .next t := by
  cases r with
  | next t => exact ⟨t, rfl⟩
  | fault _ => cases h
  | refused _ => cases h

/-- Whether the machine performs an access. -/
def performs (p : Platform) (a : Word) (n : Nat) (k : MemKind) : Bool :=
  match checkAccess p a n k with
  | .ok _ => true
  | .error _ => false

theorem allowed_of_performs {p : Platform} {a : Word} {n : Nat} {k : MemKind} (h : performs p a n k = true) :
    AccessAllowed p a n k := by
  unfold performs at h
  split at h
  · rename_i hu
    exact checkAccess_iff.mp hu
  · cases h

/-- The cells of bytes from an address up. -/
def cellsFrom (a : Nat) : List Byte → Memory
  | [] => []
  | b :: bs => (a, b) :: cellsFrom (a + 1) bs

/-- Whether bytes decode to the instruction and leave nothing. -/
def decodesAs (e : Endian) (bytes : List Byte) (i : Instr) : Bool :=
  match decode e bytes with
  | .ok (j, rest) => decide (j = i) && rest.isEmpty
  | .error _ => false

/-- Whether bytes decode to nothing. -/
def refuses (e : Endian) (bytes : List Byte) : Bool :=
  match decode e bytes with
  | .ok _ => false
  | .error _ => true

/-! ### Ill-formed terms: register 11 or 15 in each register operand of each shape of instruction -/

theorem test_illFormed :
    ∀ i ∈ ([.addKAlu 11 1, .addXAlu 11 1, .addXAlu 1 15, .negKAlu 11, .movXAlu64 11 0, .movXAlu64 0 11, .endLeAlu16 15,
      .jeqKJmp 11 0 0, .jeqXJmp 11 0 0, .jeqXJmp 0 11 0, .memBLdx 11 0 0, .memBLdx 0 11 0, .memBSt 11 0 0, .memBStx 11 0 0,
      .memBStx 0 11 0, .atomicWStxAdd 11 0 0, .atomicWStxAdd 0 11 0, .immDwLdImm64 11 0 0, .immDwLdMapfd 11 0,
      .immDwLdMapidxVal 15 0 0, .indWLd 11 0] : List Instr), ¬ i.WellFormed := by
  decide

/-- Nothing else makes a term ill-formed: every other field may hold any value. -/
theorem test_wellFormed :
    ∀ i ∈ ([.addKAlu 10 0xffffffff, .jeqXJmp 10 10 0xffff, .immDwLdMapidxVal 10 0xffffffff 0xffffffff, .exitKJmp,
      .absWLd 0xffffffff, .indWLd 10 0xffffffff, .immNext 0xffffffff] : List Instr), i.WellFormed := by
  decide

/-! ### Decoding (95_test_vectors.md section 2) -/

/-- The bytes on either host decode to the instruction. -/
def decodesTo (row : Instr × List Byte × List Byte) : Bool :=
  decodesAs .little row.2.1 row.1 && decodesAs .big row.2.2 row.1

/-- Section 2.1: the bytes that the spec writes out, on both hosts. -/
theorem test_decode_words :
    ([(.addKAlu 3 0xffffffff, [0x04, 0x03, 0x00, 0x00, 0xff, 0xff, 0xff, 0xff],
       [0x04, 0x30, 0x00, 0x00, 0xff, 0xff, 0xff, 0xff]),
     (.subXAlu64 9 10, [0x1f, 0xa9, 0x00, 0x00, 0x00, 0x00, 0x00, 0x00],
       [0x1f, 0x9a, 0x00, 0x00, 0x00, 0x00, 0x00, 0x00]),
     (.sdivXAlu 2 4, [0x3c, 0x42, 0x01, 0x00, 0x00, 0x00, 0x00, 0x00],
       [0x3c, 0x24, 0x00, 0x01, 0x00, 0x00, 0x00, 0x00]),
     (.smodKAlu64 5 0xfffffff9, [0x97, 0x05, 0x01, 0x00, 0xf9, 0xff, 0xff, 0xff],
       [0x97, 0x50, 0x00, 0x01, 0xff, 0xff, 0xff, 0xf9]),
     (.movsx16XAlu 1 2, [0xbc, 0x21, 0x10, 0x00, 0x00, 0x00, 0x00, 0x00],
       [0xbc, 0x12, 0x00, 0x10, 0x00, 0x00, 0x00, 0x00]),
     (.movsx32XAlu64 1 2, [0xbf, 0x21, 0x20, 0x00, 0x00, 0x00, 0x00, 0x00],
       [0xbf, 0x12, 0x00, 0x20, 0x00, 0x00, 0x00, 0x00]),
     (.negKAlu64 7, [0x87, 0x07, 0x00, 0x00, 0x00, 0x00, 0x00, 0x00],
       [0x87, 0x70, 0x00, 0x00, 0x00, 0x00, 0x00, 0x00]),
     (.endBeAlu16 4, [0xdc, 0x04, 0x00, 0x00, 0x10, 0x00, 0x00, 0x00],
       [0xdc, 0x40, 0x00, 0x00, 0x00, 0x00, 0x00, 0x10]),
     (.endLeAlu64 4, [0xd4, 0x04, 0x00, 0x00, 0x40, 0x00, 0x00, 0x00],
       [0xd4, 0x40, 0x00, 0x00, 0x00, 0x00, 0x00, 0x40]),
     (.endToAlu6432 4, [0xd7, 0x04, 0x00, 0x00, 0x20, 0x00, 0x00, 0x00],
       [0xd7, 0x40, 0x00, 0x00, 0x00, 0x00, 0x00, 0x20]),
     (.jaKJmp 0xfffe, [0x05, 0x00, 0xfe, 0xff, 0x00, 0x00, 0x00, 0x00],
       [0x05, 0x00, 0xff, 0xfe, 0x00, 0x00, 0x00, 0x00]),
     (.jaKJmp32 70000, [0x06, 0x00, 0x00, 0x00, 0x70, 0x11, 0x01, 0x00],
       [0x06, 0x00, 0x00, 0x00, 0x00, 0x01, 0x11, 0x70]),
     (.jsetKJmp32 8 0x80 5, [0x46, 0x08, 0x05, 0x00, 0x80, 0x00, 0x00, 0x00],
       [0x46, 0x80, 0x00, 0x05, 0x00, 0x00, 0x00, 0x80]),
     (.jsgtXJmp 1 2 0xfffc, [0x6d, 0x21, 0xfc, 0xff, 0x00, 0x00, 0x00, 0x00],
       [0x6d, 0x12, 0xff, 0xfc, 0x00, 0x00, 0x00, 0x00]),
     (.callKJmpHelper 12, [0x85, 0x00, 0x00, 0x00, 0x0c, 0x00, 0x00, 0x00],
       [0x85, 0x00, 0x00, 0x00, 0x00, 0x00, 0x00, 0x0c]),
     (.callKJmpLocal 0xfffffffb, [0x85, 0x10, 0x00, 0x00, 0xfb, 0xff, 0xff, 0xff],
       [0x85, 0x01, 0x00, 0x00, 0xff, 0xff, 0xff, 0xfb]),
     (.callKJmpBtf 301, [0x85, 0x20, 0x00, 0x00, 0x2d, 0x01, 0x00, 0x00],
       [0x85, 0x02, 0x00, 0x00, 0x00, 0x00, 0x01, 0x2d]),
     (.exitKJmp, [0x95, 0x00, 0x00, 0x00, 0x00, 0x00, 0x00, 0x00],
       [0x95, 0x00, 0x00, 0x00, 0x00, 0x00, 0x00, 0x00]),
     (.memHLdx 0 1 12, [0x69, 0x10, 0x0c, 0x00, 0x00, 0x00, 0x00, 0x00],
       [0x69, 0x01, 0x00, 0x0c, 0x00, 0x00, 0x00, 0x00]),
     (.memsxBLdx 3 6 0xffff, [0x91, 0x63, 0xff, 0xff, 0x00, 0x00, 0x00, 0x00],
       [0x91, 0x36, 0xff, 0xff, 0x00, 0x00, 0x00, 0x00]),
     (.memBSt 10 0xffff 0x7f, [0x72, 0x0a, 0xff, 0xff, 0x7f, 0x00, 0x00, 0x00],
       [0x72, 0xa0, 0xff, 0xff, 0x00, 0x00, 0x00, 0x7f]),
     (.memDwStx 10 6 0xffe8, [0x7b, 0x6a, 0xe8, 0xff, 0x00, 0x00, 0x00, 0x00],
       [0x7b, 0xa6, 0xff, 0xe8, 0x00, 0x00, 0x00, 0x00]),
     (.atomicWStxXorFetch 1 2 8, [0xc3, 0x21, 0x08, 0x00, 0xa1, 0x00, 0x00, 0x00],
       [0xc3, 0x12, 0x00, 0x08, 0x00, 0x00, 0x00, 0xa1]),
     (.atomicDwStxXchg 1 2 0, [0xdb, 0x21, 0x00, 0x00, 0xe1, 0x00, 0x00, 0x00],
       [0xdb, 0x12, 0x00, 0x00, 0x00, 0x00, 0x00, 0xe1]),
     (.atomicWStxCmpxchg 1 2 4, [0xc3, 0x21, 0x04, 0x00, 0xf1, 0x00, 0x00, 0x00],
       [0xc3, 0x12, 0x00, 0x04, 0x00, 0x00, 0x00, 0xf1]),
     (.immDwLdImm64 2 0xdeadbeef 0xcafef00d, [0x18, 0x02, 0x00, 0x00, 0xef, 0xbe, 0xad, 0xde, 0x00, 0x00, 0x00, 0x00, 0x0d, 0xf0, 0xfe, 0xca],
       [0x18, 0x20, 0x00, 0x00, 0xde, 0xad, 0xbe, 0xef, 0x00, 0x00, 0x00, 0x00, 0xca, 0xfe, 0xf0, 0x0d]),
     (.immDwLdMapfd 1 5, [0x18, 0x11, 0x00, 0x00, 0x05, 0x00, 0x00, 0x00, 0x00, 0x00, 0x00, 0x00, 0x00, 0x00, 0x00, 0x00],
       [0x18, 0x11, 0x00, 0x00, 0x00, 0x00, 0x00, 0x05, 0x00, 0x00, 0x00, 0x00, 0x00, 0x00, 0x00, 0x00]),
     (.immDwLdMapidxVal 1 2 64, [0x18, 0x61, 0x00, 0x00, 0x02, 0x00, 0x00, 0x00, 0x00, 0x00, 0x00, 0x00, 0x40, 0x00, 0x00, 0x00],
       [0x18, 0x16, 0x00, 0x00, 0x00, 0x00, 0x00, 0x02, 0x00, 0x00, 0x00, 0x00, 0x00, 0x00, 0x00, 0x40]),
     (.absWLd 0xe, [0x20, 0x00, 0x00, 0x00, 0x0e, 0x00, 0x00, 0x00],
       [0x20, 0x00, 0x00, 0x00, 0x00, 0x00, 0x00, 0x0e]),
     (.indHLd 3 2, [0x48, 0x30, 0x00, 0x00, 0x02, 0x00, 0x00, 0x00],
       [0x48, 0x03, 0x00, 0x00, 0x00, 0x00, 0x00, 0x02])] : List (Instr × List Byte × List Byte)).all decodesTo = true := by
  decide

/-- Section 2.2: words that are no instruction (little-endian host), opcode 0x00 in instruction position among them. -/
theorem test_refuse_words :
    ([[0x04, 0x01, 0x01, 0x00, 0x05, 0x00, 0x00, 0x00],
     [0x0c, 0x21, 0x00, 0x00, 0x01, 0x00, 0x00, 0x00],
     [0x07, 0x31, 0x00, 0x00, 0x01, 0x00, 0x00, 0x00],
     [0x34, 0x01, 0x02, 0x00, 0x05, 0x00, 0x00, 0x00],
     [0xbc, 0x21, 0x20, 0x00, 0x00, 0x00, 0x00, 0x00],
     [0xbf, 0x21, 0x18, 0x00, 0x00, 0x00, 0x00, 0x00],
     [0xb4, 0x01, 0x08, 0x00, 0x00, 0x00, 0x00, 0x00],
     [0x8c, 0x21, 0x00, 0x00, 0x00, 0x00, 0x00, 0x00],
     [0xdf, 0x01, 0x00, 0x00, 0x10, 0x00, 0x00, 0x00],
     [0xd4, 0x01, 0x00, 0x00, 0x08, 0x00, 0x00, 0x00],
     [0xe4, 0x01, 0x00, 0x00, 0x00, 0x00, 0x00, 0x00],
     [0x0d, 0x21, 0x00, 0x00, 0x00, 0x00, 0x00, 0x00],
     [0x05, 0x01, 0x01, 0x00, 0x00, 0x00, 0x00, 0x00],
     [0x06, 0x00, 0x01, 0x00, 0x05, 0x00, 0x00, 0x00],
     [0x8d, 0x10, 0x00, 0x00, 0x00, 0x00, 0x00, 0x00],
     [0x85, 0x30, 0x00, 0x00, 0x01, 0x00, 0x00, 0x00],
     [0x86, 0x00, 0x00, 0x00, 0x01, 0x00, 0x00, 0x00],
     [0x95, 0x00, 0x00, 0x00, 0x01, 0x00, 0x00, 0x00],
     [0xe5, 0x01, 0x01, 0x00, 0x00, 0x00, 0x00, 0x00],
     [0x15, 0x0b, 0x01, 0x00, 0x00, 0x00, 0x00, 0x00],
     [0x0f, 0xf1, 0x00, 0x00, 0x00, 0x00, 0x00, 0x00],
     [0x99, 0x21, 0x00, 0x00, 0x00, 0x00, 0x00, 0x00],
     [0x82, 0x01, 0x00, 0x00, 0x00, 0x00, 0x00, 0x00],
     [0x61, 0x21, 0x00, 0x00, 0x07, 0x00, 0x00, 0x00],
     [0x62, 0x21, 0x00, 0x00, 0x07, 0x00, 0x00, 0x00],
     [0xcb, 0x21, 0x00, 0x00, 0x00, 0x00, 0x00, 0x00],
     [0xc3, 0x21, 0x00, 0x00, 0x02, 0x00, 0x00, 0x00],
     [0xc3, 0x21, 0x00, 0x00, 0xe0, 0x00, 0x00, 0x00],
     [0xdb, 0x21, 0x00, 0x00, 0x00, 0x01, 0x00, 0x00],
     [0x18, 0x71, 0x00, 0x00, 0x00, 0x00, 0x00, 0x00, 0x00, 0x00, 0x00, 0x00, 0x00, 0x00, 0x00, 0x00],
     [0x18, 0x01, 0x00, 0x00, 0x01, 0x00, 0x00, 0x00, 0x07, 0x00, 0x00, 0x00, 0x02, 0x00, 0x00, 0x00],
     [0x18, 0x01, 0x00, 0x00, 0x01, 0x00, 0x00, 0x00, 0x00, 0x01, 0x00, 0x00, 0x02, 0x00, 0x00, 0x00],
     [0x18, 0x11, 0x00, 0x00, 0x03, 0x00, 0x00, 0x00, 0x00, 0x00, 0x00, 0x00, 0x09, 0x00, 0x00, 0x00],
     [0x18, 0x01, 0x04, 0x00, 0x01, 0x00, 0x00, 0x00, 0x00, 0x00, 0x00, 0x00, 0x00, 0x00, 0x00, 0x00],
     [0x10, 0x01, 0x00, 0x00, 0x01, 0x00, 0x00, 0x00],
     [0x38, 0x00, 0x00, 0x00, 0x01, 0x00, 0x00, 0x00],
     [0x20, 0x01, 0x00, 0x00, 0x01, 0x00, 0x00, 0x00],
     [0x00, 0x00, 0x00, 0x00, 0x05, 0x00, 0x00, 0x00]] : List (List Byte)).all
      (fun bytes => refuses .little bytes) = true := by
  decide

/-- A wide instruction in the last slot of a program is refused (60_exceptions.md R462). -/
theorem test_refuse_wide_last : refuses .little [0x18, 0x01, 0, 0, 1, 0, 0, 0] = true := by decide

/-- The second slot of a wide instruction is the row IMM_NEXT in its own position only (30_encoding.md R98, R110). -/
theorem test_second_slot :
    decodeSecond (Slot.fields .little ⟨0, 0, 0, 0, 5, 0, 0, 0⟩) = .ok (.immNext 5) ∧
      decodeSecond (Slot.fields .big ⟨0, 0, 0, 0, 0, 0, 0, 5⟩) = .ok (.immNext 5) ∧
      decodeSecond (Slot.fields .little ⟨0, 1, 0, 0, 5, 0, 0, 0⟩) = .error .badSecondSlot ∧
      decode .little [0, 0, 0, 0, 5, 0, 0, 0] = .error (.unassignedOpcode 0) ∧
      decodeTableWord 64 0x0000000500000000 = some (.immNext 5) := ⟨rfl, rfl, rfl, rfl, rfl⟩

/-- An opcode byte 0x00 in instruction position faults (95_test_vectors.md section 2.2, last row). -/
theorem test_opcode_zero_faults :
    faultOf (step (running [⟨0, 0, 0, 0, 5, 0, 0, 0⟩] 0)) = some (.illegalInstruction 0) := by decide

/-! ### Results (95_test_vectors.md section 3) -/

/-- Register 1 after the instruction, started with the two given values in r1 and r2. -/
def regResult (e : Endian) (row : Instr × Word × Word × Word) : Bool :=
  decide (regOf (exec row.1 (machine e 0 [(1, row.2.1), (2, row.2.2.1)] [])) 1 = some row.2.2.2)

/-- `pc` after the instruction, started at slot 10 with the two given values in r1 and r2. -/
def pcResult (row : Instr × Word × Word × Int) : Bool :=
  decide (pcOf (exec row.1 (machine .little 10 [(1, row.2.1), (2, row.2.2.1)] [])) = some row.2.2.2)

/-- Section 3.1, class ALU, the first half. -/
theorem test_alu32_first :
    ([(.addKAlu 1 0xfffffffd, 5, 0x99, 2),
     (.addXAlu 1 2, 0x1ffffffff, 0x200000001, 0),
     (.subKAlu 1 0xffffffff, 0x100000000, 0x99, 1),
     (.subXAlu 1 2, 0x10, 0x20, 0xfffffff0),
     (.mulKAlu 1 0xfffffffe, 0x100000003, 0x99, 0xfffffffa),
     (.mulXAlu 1 2, 0xffffffff, 0xffffffff, 1),
     (.divKAlu 1 3, 0xfffffffffffffff6, 0x99, 0x55555552),
     (.divKAlu 1 0xffffffff, 0xffffffffffffffff, 0x99, 1),
     (.divXAlu 1 2, 0x64, 7, 0xe),
     (.divXAlu 1 2, 0xdeadbeef00000064, 0, 0),
     (.sdivKAlu 1 2, 0xfffffffffffffff9, 0x99, 0xfffffffd),
     (.sdivKAlu 1 0, 0x55, 0x99, 0),
     (.sdivXAlu 1 2, 0xffffffff80000000, 0xffffffffffffffff, 0x80000000),
     (.sdivXAlu 1 2, 0xfffffffffffffff9, 0xfffffffffffffffe, 3),
     (.orKAlu 1 0x80000000, 1, 0x99, 0x80000001),
     (.orXAlu 1 2, 0xf0f0f0f000000000, 0xf0f0f0f, 0xf0f0f0f),
     (.andKAlu 1 0xfffffff0, 0x123456789abcdef0, 0x99, 0x9abcdef0),
     (.andXAlu 1 2, 0xffff0000ffff0000, 0xff00ff00ff00ff0, 0xff00000),
     (.lshKAlu 1 0x1f, 1, 0x99, 0x80000000),
     (.lshKAlu 1 0x20, 3, 0x99, 3),
     (.lshXAlu 1 2, 1, 0x21, 2),
     (.lshXAlu 1 2, 1, 0x3f, 0x80000000)] : List (Instr × Word × Word × Word)).all
      (regResult .little) = true := by
  decide

/-- Section 3.1, class ALU, the second half. -/
theorem test_alu32_second :
    ([(.rshKAlu 1 4, 0x8000000080000000, 0x99, 0x8000000),
     (.rshKAlu 1 0x20, 0xffffffffffffffff, 0x99, 0xffffffff),
     (.rshXAlu 1 2, 0x8000000080000000, 0x43, 0x10000000),
     (.negKAlu 1, 0xffffffff80000000, 0x99, 0x80000000),
     (.modKAlu 1 3, 0xfffffffffffffff6, 0x99, 0),
     (.modKAlu 1 0xffffffff, 5, 0x99, 5),
     (.modXAlu 1 2, 0x64, 7, 2),
     (.modXAlu 1 2, 0xaaaaaaaa00000007, 0, 7),
     (.smodKAlu 1 3, 0xfffffffffffffff3, 0x99, 0xffffffff),
     (.smodKAlu 1 0, 0xaaaaaaaafffffff3, 0x99, 0xfffffff3),
     (.smodXAlu 1 2, 0xffffffff80000000, 0xffffffffffffffff, 0),
     (.smodXAlu 1 2, 0xfffffffffffffff3, 0xfffffffffffffffd, 0xffffffff),
     (.xorKAlu 1 0xff, 0xf, 0x99, 0xf0),
     (.xorXAlu 1 2, 0x123456789abcdef0, 0x123456789abcdef0, 0),
     (.movKAlu 1 0x7fffffff, 0x77, 0x99, 0x7fffffff),
     (.movXAlu 1 2, 0x77, 0x123456789abcdef0, 0x9abcdef0),
     (.movsx8XAlu 1 2, 0x77, 0xffffffffffffff7f, 0x7f),
     (.movsx16XAlu 1 2, 0x77, 0xffffffffffff7fff, 0x7fff),
     (.arshKAlu 1 4, 0x8000000080000000, 0x99, 0xf8000000),
     (.arshKAlu 1 4, 0x7fffffff7fffffff, 0x99, 0x7ffffff),
     (.arshXAlu 1 2, 0xffffffff80000000, 0x3f, 0xffffffff)] : List (Instr × Word × Word × Word)).all
      (regResult .little) = true := by
  decide

/-- Section 3.2, class ALU64, the first half. -/
theorem test_alu64_first :
    ([(.divKAlu 1 0xffffffff, 0xfffffffe, 0x99, 0),
     (.addKAlu64 1 0xfffffffd, 5, 0x99, 2),
     (.addXAlu64 1 2, 0x1ffffffff, 0x200000001, 0x400000000),
     (.subKAlu64 1 0xffffffff, 0x100000000, 0x99, 0x100000001),
     (.subXAlu64 1 2, 0x10, 0x20, 0xfffffffffffffff0),
     (.mulKAlu64 1 0xfffffffe, 0x100000003, 0x99, 0xfffffffdfffffffa),
     (.mulXAlu64 1 2, 0xffffffff, 0xffffffff, 0xfffffffe00000001),
     (.divKAlu64 1 3, 0xfffffffffffffff6, 0x99, 0x5555555555555552),
     (.divKAlu64 1 0xffffffff, 0xfffffffffffffffe, 0x99, 0),
     (.divXAlu64 1 2, 0x64, 7, 0xe),
     (.divXAlu64 1 2, 0xdeadbeef00000064, 0, 0),
     (.sdivKAlu64 1 2, 0xfffffffffffffff9, 0x99, 0xfffffffffffffffd),
     (.sdivKAlu64 1 0, 0x55, 0x99, 0),
     (.sdivXAlu64 1 2, 0x8000000000000000, 0xffffffffffffffff, 0x8000000000000000),
     (.sdivXAlu64 1 2, 0xfffffffffffffff9, 0xfffffffffffffffe, 3),
     (.orKAlu64 1 0x80000000, 1, 0x99, 0xffffffff80000001),
     (.orXAlu64 1 2, 0xf0f0f0f000000000, 0xf0f0f0f, 0xf0f0f0f00f0f0f0f),
     (.andKAlu64 1 0xfffffff0, 0x123456789abcdef0, 0x99, 0x123456789abcdef0),
     (.andXAlu64 1 2, 0xffff0000ffff0000, 0xff00ff00ff00ff0, 0xff000000ff00000),
     (.lshKAlu64 1 0x1f, 1, 0x99, 0x80000000),
     (.lshKAlu64 1 0x20, 3, 0x99, 0x300000000),
     (.lshXAlu64 1 2, 1, 0x21, 0x200000000),
     (.lshXAlu64 1 2, 1, 0x3f, 0x8000000000000000)] : List (Instr × Word × Word × Word)).all
      (regResult .little) = true := by
  decide

/-- Section 3.2, class ALU64, the second half. -/
theorem test_alu64_second :
    ([(.rshKAlu64 1 4, 0x8000000080000000, 0x99, 0x800000008000000),
     (.rshKAlu64 1 0x20, 0xffffffffffffffff, 0x99, 0xffffffff),
     (.rshXAlu64 1 2, 0x8000000080000000, 0x43, 0x1000000010000000),
     (.negKAlu64 1, 0x8000000000000000, 0x99, 0x8000000000000000),
     (.modKAlu64 1 3, 0xfffffffffffffff6, 0x99, 0),
     (.modKAlu64 1 0xfffffffe, 0xffffffffffffffff, 0x99, 1),
     (.modXAlu64 1 2, 0x64, 7, 2),
     (.modXAlu64 1 2, 0xaaaaaaaa00000007, 0, 0xaaaaaaaa00000007),
     (.smodKAlu64 1 3, 0xfffffffffffffff3, 0x99, 0xffffffffffffffff),
     (.smodKAlu64 1 0, 0xaaaaaaaafffffff3, 0x99, 0xaaaaaaaafffffff3),
     (.smodXAlu64 1 2, 0x8000000000000000, 0xffffffffffffffff, 0),
     (.smodXAlu64 1 2, 0xfffffffffffffff3, 0xfffffffffffffffd, 0xffffffffffffffff),
     (.xorKAlu64 1 0xff, 0xf, 0x99, 0xf0),
     (.xorXAlu64 1 2, 0x123456789abcdef0, 0x123456789abcdef0, 0),
     (.movKAlu64 1 0x7fffffff, 0x77, 0x99, 0x7fffffff),
     (.movXAlu64 1 2, 0x77, 0x123456789abcdef0, 0x123456789abcdef0),
     (.movsx8XAlu64 1 2, 0x77, 0xffffffffffffff7f, 0x7f),
     (.movsx16XAlu64 1 2, 0x77, 0xffffffffffff7fff, 0x7fff),
     (.movsx32XAlu64 1 2, 0x77, 0xffffffff7fffffff, 0x7fffffff),
     (.arshKAlu64 1 4, 0x8000000080000000, 0x99, 0xf800000008000000),
     (.arshKAlu64 1 4, 0x7fffffff7fffffff, 0x99, 0x7fffffff7ffffff),
     (.arshXAlu64 1 2, 0xffffffff80000000, 0x3f, 0xffffffffffffffff)] : List (Instr × Word × Word × Word)).all
      (regResult .little) = true := by
  decide

/-- Section 3.3, little-endian host. -/
theorem test_byteswap_little :
    ([(.endLeAlu16 1, 0x123456789abcdef, 0, 0xcdef),
     (.endLeAlu32 1, 0x123456789abcdef, 0, 0x89abcdef),
     (.endLeAlu64 1, 0x123456789abcdef, 0, 0x123456789abcdef),
     (.endBeAlu16 1, 0x123456789abcdef, 0, 0xefcd),
     (.endBeAlu32 1, 0x123456789abcdef, 0, 0xefcdab89),
     (.endBeAlu64 1, 0x123456789abcdef, 0, 0xefcdab8967452301),
     (.endToAlu6416 1, 0x123456789abcdef, 0, 0xefcd),
     (.endToAlu6432 1, 0x123456789abcdef, 0, 0xefcdab89),
     (.endToAlu6464 1, 0x123456789abcdef, 0, 0xefcdab8967452301)] : List (Instr × Word × Word × Word)).all
      (regResult .little) = true := by
  decide

/-- Section 3.3, big-endian host. -/
theorem test_byteswap_big :
    ([(.endLeAlu16 1, 0x123456789abcdef, 0, 0xefcd),
     (.endLeAlu32 1, 0x123456789abcdef, 0, 0xefcdab89),
     (.endLeAlu64 1, 0x123456789abcdef, 0, 0xefcdab8967452301),
     (.endBeAlu16 1, 0x123456789abcdef, 0, 0xcdef),
     (.endBeAlu32 1, 0x123456789abcdef, 0, 0x89abcdef),
     (.endBeAlu64 1, 0x123456789abcdef, 0, 0x123456789abcdef),
     (.endToAlu6416 1, 0x123456789abcdef, 0, 0xefcd),
     (.endToAlu6432 1, 0x123456789abcdef, 0, 0xefcdab89),
     (.endToAlu6464 1, 0x123456789abcdef, 0, 0xefcdab8967452301)] : List (Instr × Word × Word × Word)).all
      (regResult .big) = true := by
  decide

/-- Section 3.4, the first half: where the spec has one taken and one not taken, both. -/
theorem test_jumps_first :
    ([(.jaKJmp 3, 0, 0, 14),
     (.jaKJmp 0xfff5, 0, 0, 0),
     (.jaKJmp32 100000, 0, 0, 100011),
     (.jeqKJmp 1 0xffffffff 3, 0x1ffffffff, 0, 11),
     (.jeqKJmp 1 5 3, 5, 0, 14),
     (.jeqXJmp 1 2 3, 0x1ffffffff, 0xffffffffffffffff, 11),
     (.jeqXJmp 1 2 3, 5, 5, 14),
     (.jeqKJmp32 1 5 3, 5, 0, 14),
     (.jeqXJmp32 1 2 3, 5, 5, 14),
     (.jgtKJmp 1 1 3, 0xffffffffffffffff, 0, 14),
     (.jgtKJmp 1 1 3, 1, 0, 11),
     (.jgtXJmp 1 2 3, 0xffffffffffffffff, 1, 14),
     (.jgtXJmp 1 2 3, 1, 1, 11),
     (.jgtKJmp32 1 1 3, 0xffffffffffffffff, 0, 14),
     (.jgtKJmp32 1 1 3, 1, 0, 11),
     (.jgtXJmp32 1 2 3, 0xffffffffffffffff, 1, 14),
     (.jgtXJmp32 1 2 3, 1, 1, 11),
     (.jgeKJmp 1 1 3, 1, 0, 14),
     (.jgeKJmp 1 0xffffffff 3, 0, 0, 11),
     (.jgeXJmp 1 2 3, 1, 1, 14),
     (.jgeXJmp 1 2 3, 0, 0xffffffffffffffff, 11),
     (.jgeKJmp32 1 1 3, 1, 0, 14),
     (.jgeKJmp32 1 0xffffffff 3, 0, 0, 11),
     (.jgeXJmp32 1 2 3, 1, 1, 14),
     (.jgeXJmp32 1 2 3, 0, 0xffffffffffffffff, 11),
     (.jsetKJmp 1 0xffffffff 3, 0x100000000, 0, 14),
     (.jsetKJmp 1 0xf 3, 0xf0, 0, 11),
     (.jsetXJmp 1 2 3, 0x100000000, 0xffffffffffffffff, 14),
     (.jsetXJmp 1 2 3, 0xf0, 0xf, 11),
     (.jsetKJmp32 1 0xf 3, 0xf0, 0, 11),
     (.jsetXJmp32 1 2 3, 0xf0, 0xf, 11),
     (.jneKJmp 1 0xffffffff 3, 0x1ffffffff, 0, 14),
     (.jneKJmp 1 5 3, 5, 0, 11),
     (.jneXJmp 1 2 3, 0x1ffffffff, 0xffffffffffffffff, 14),
     (.jneXJmp 1 2 3, 5, 5, 11),
     (.jneKJmp32 1 5 3, 5, 0, 11),
     (.jneXJmp32 1 2 3, 5, 5, 11),
     (.jsgtKJmp 1 1 3, 0xffffffffffffffff, 0, 11),
     (.jsgtKJmp 1 1 3, 0x80000000, 0, 14)] : List (Instr × Word × Word × Int)).all
      pcResult = true := by
  decide

/-- Section 3.4, the second half: where the spec has one taken and one not taken, both. -/
theorem test_jumps_second :
    ([(.jsgtXJmp 1 2 3, 0xffffffffffffffff, 1, 11),
     (.jsgtXJmp 1 2 3, 0x80000000, 1, 14),
     (.jsgtKJmp32 1 1 3, 0x80000000, 0, 11),
     (.jsgtXJmp32 1 2 3, 0x80000000, 1, 11),
     (.jsgeKJmp 1 0 3, 0x80000000, 0, 14),
     (.jsgeXJmp 1 2 3, 0x80000000, 0, 14),
     (.jsgeKJmp32 1 0xffffffff 3, 0xffffffffffffffff, 0, 14),
     (.jsgeKJmp32 1 0 3, 0x80000000, 0, 11),
     (.jsgeXJmp32 1 2 3, 0xffffffffffffffff, 0xffffffffffffffff, 14),
     (.jsgeXJmp32 1 2 3, 0x80000000, 0, 11),
     (.jltKJmp 1 0xffffffff 3, 1, 0, 14),
     (.jltKJmp 1 1 3, 1, 0, 11),
     (.jltXJmp 1 2 3, 1, 0xffffffffffffffff, 14),
     (.jltXJmp 1 2 3, 1, 1, 11),
     (.jltKJmp32 1 0xffffffff 3, 1, 0, 14),
     (.jltKJmp32 1 1 3, 1, 0, 11),
     (.jltXJmp32 1 2 3, 1, 0xffffffffffffffff, 14),
     (.jltXJmp32 1 2 3, 1, 1, 11),
     (.jleKJmp 1 1 3, 1, 0, 14),
     (.jleKJmp 1 0 3, 0xffffffffffffffff, 0, 11),
     (.jleXJmp 1 2 3, 1, 1, 14),
     (.jleXJmp 1 2 3, 0xffffffffffffffff, 0, 11),
     (.jleKJmp32 1 1 3, 1, 0, 14),
     (.jleKJmp32 1 0 3, 0xffffffffffffffff, 0, 11),
     (.jleXJmp32 1 2 3, 1, 1, 14),
     (.jleXJmp32 1 2 3, 0xffffffffffffffff, 0, 11),
     (.jsltKJmp 1 1 3, 0xffffffffffffffff, 0, 14),
     (.jsltKJmp 1 1 3, 0x80000000, 0, 11),
     (.jsltXJmp 1 2 3, 0xffffffffffffffff, 1, 14),
     (.jsltXJmp 1 2 3, 0x80000000, 1, 11),
     (.jsltKJmp32 1 1 3, 0x80000000, 0, 14),
     (.jsltXJmp32 1 2 3, 0x80000000, 1, 14),
     (.jsleKJmp 1 0xffffffff 3, 0xffffffffffffffff, 0, 14),
     (.jsleKJmp 1 0 3, 0x80000000, 0, 11),
     (.jsleXJmp 1 2 3, 0xffffffffffffffff, 0xffffffffffffffff, 14),
     (.jsleXJmp 1 2 3, 0x80000000, 0, 11),
     (.jsleKJmp32 1 0 3, 0x80000000, 0, 14),
     (.jsleXJmp32 1 2 3, 0x80000000, 0, 14)] : List (Instr × Word × Word × Int)).all
      pcResult = true := by
  decide

/-- A load with the bytes 80 91 a2 b3 c4 d5 e6 f7 at 0x1000, on both hosts. -/
def loadResult (row : Instr × Word × Word × Word) : Bool :=
  let mem : Memory := [(0x1000, 0x80), (0x1001, 0x91), (0x1002, 0xa2), (0x1003, 0xb3), (0x1004, 0xc4), (0x1005, 0xd5),
    (0x1006, 0xe6), (0x1007, 0xf7)]
  decide (regOf (exec row.1 (machine .little 0 [(2, row.2.1)] mem)) 1 = some row.2.2.1) &&
    decide (regOf (exec row.1 (machine .big 0 [(2, row.2.1)] mem)) 1 = some row.2.2.2)

/-- A store from r1 = 0x2000 and r2 = 0x0123456789abcdef: the bytes that memory then lists, on both hosts. Misaligned accesses are
split (MISALIGNED = split), as the vector of `MEM_DW_ST` needs. -/
def storeResult (row : Instr × Nat × List Byte × List Byte) : Bool :=
  let start (e : Endian) : State := splitting (machine e 0 [(1, 0x2000), (2, 0x0123456789abcdef)] [])
  decide (memOf (exec row.1 (start .little)) = some (cellsFrom row.2.1 row.2.2.1)) &&
    decide (memOf (exec row.1 (start .big)) = some (cellsFrom row.2.1 row.2.2.2))

/-- Section 3.6, loads: the address base, then the results on a little-endian and on a big-endian host. -/
theorem test_loads :
    ([(.memBLdx 1 2 0xfff8, 0x1008, 0x80, 0x80),
     (.memHLdx 1 2 0xfff8, 0x1008, 0x9180, 0x8091),
     (.memWLdx 1 2 0xfff8, 0x1008, 0xb3a29180, 0x8091a2b3),
     (.memDwLdx 1 2 0xfff8, 0x1008, 0xf7e6d5c4b3a29180, 0x8091a2b3c4d5e6f7),
     (.memsxBLdx 1 2 0, 0x1000, 0xffffffffffffff80, 0xffffffffffffff80),
     (.memsxHLdx 1 2 0, 0x1000, 0xffffffffffff9180, 0xffffffffffff8091),
     (.memsxWLdx 1 2 0, 0x1000, 0xffffffffb3a29180, 0xffffffff8091a2b3)] : List (Instr × Word × Word × Word)).all
      loadResult = true := by
  decide

/-- Section 3.6, stores: the bytes on a little-endian and on a big-endian host. -/
theorem test_stores :
    ([(.memBSt 1 4 0x89abcdef, 0x2004, [0xef], [0xef]),
     (.memHSt 1 4 0x89abcdef, 0x2004, [0xef, 0xcd], [0xcd, 0xef]),
     (.memWSt 1 4 0x89abcdef, 0x2004, [0xef, 0xcd, 0xab, 0x89], [0x89, 0xab, 0xcd, 0xef]),
     (.memDwSt 1 4 0x89abcdef, 0x2004, [0xef, 0xcd, 0xab, 0x89, 0xff, 0xff, 0xff, 0xff], [0xff, 0xff, 0xff, 0xff, 0x89, 0xab, 0xcd, 0xef]),
     (.memBStx 1 2 0, 0x2000, [0xef], [0xef]),
     (.memHStx 1 2 0, 0x2000, [0xef, 0xcd], [0xcd, 0xef]),
     (.memWStx 1 2 0, 0x2000, [0xef, 0xcd, 0xab, 0x89], [0x89, 0xab, 0xcd, 0xef]),
     (.memDwStx 1 2 0, 0x2000, [0xef, 0xcd, 0xab, 0x89, 0x67, 0x45, 0x23, 0x01], [0x01, 0x23, 0x45, 0x67, 0x89, 0xab, 0xcd, 0xef])] : List (Instr × Nat × List Byte × List Byte)).all
      storeResult = true := by
  decide

/-- An atomic at 0x3008 with x[src] = 0x123456780000001f: r0 before; the datum, x[src] and r0 after, in the order of the
vectors. The datum before is 0xfffffff0 (four bytes) or 0xfffffffffffffff0 (eight). -/
def atomicResult (size : Size) (e : Endian) (row : Instr × Word × Word × Word × Word) : Bool :=
  let before := cellsFrom 0x3008 (disassemble e size.bytes 0xfffffffffffffff0)
  let r := exec row.1 (machine e 0 [(0, row.2.1), (1, 0x3000), (2, 0x123456780000001f)] before)
  decide (memOf r = some (cellsFrom 0x3008 (disassemble e size.bytes row.2.2.1))) &&
    decide (regOf r 2 = some row.2.2.2.1) && decide (regOf r 0 = some row.2.2.2.2)

/-- Section 3.7, little-endian host. -/
theorem test_atomics_w :
    ([(.atomicWStxAdd 1 2 8, 5, 0xf, 0x123456780000001f, 5),
     (.atomicWStxAddFetch 1 2 8, 5, 0xf, 0xfffffff0, 5),
     (.atomicWStxOr 1 2 8, 5, 0xffffffff, 0x123456780000001f, 5),
     (.atomicWStxOrFetch 1 2 8, 5, 0xffffffff, 0xfffffff0, 5),
     (.atomicWStxAnd 1 2 8, 5, 0x10, 0x123456780000001f, 5),
     (.atomicWStxAndFetch 1 2 8, 5, 0x10, 0xfffffff0, 5),
     (.atomicWStxXor 1 2 8, 5, 0xffffffef, 0x123456780000001f, 5),
     (.atomicWStxXorFetch 1 2 8, 5, 0xffffffef, 0xfffffff0, 5),
     (.atomicWStxXchg 1 2 8, 5, 0x1f, 0xfffffff0, 5),
     (.atomicWStxCmpxchg 1 2 8, 0xaaaaaaaafffffff0, 0x1f, 0x123456780000001f, 0xfffffff0),
     (.atomicWStxCmpxchg 1 2 8, 5, 0xfffffff0, 0x123456780000001f, 0xfffffff0)] : List (Instr × Word × Word × Word × Word)).all
      (atomicResult .w .little) = true := by
  decide

/-- Section 3.7, big-endian host. -/
theorem test_atomics_dw :
    ([(.atomicDwStxAdd 1 2 8, 5, 0x123456780000000f, 0x123456780000001f, 5),
     (.atomicDwStxAddFetch 1 2 8, 5, 0x123456780000000f, 0xfffffffffffffff0, 5),
     (.atomicDwStxOr 1 2 8, 5, 0xffffffffffffffff, 0x123456780000001f, 5),
     (.atomicDwStxOrFetch 1 2 8, 5, 0xffffffffffffffff, 0xfffffffffffffff0, 5),
     (.atomicDwStxAnd 1 2 8, 5, 0x1234567800000010, 0x123456780000001f, 5),
     (.atomicDwStxAndFetch 1 2 8, 5, 0x1234567800000010, 0xfffffffffffffff0, 5),
     (.atomicDwStxXor 1 2 8, 5, 0xedcba987ffffffef, 0x123456780000001f, 5),
     (.atomicDwStxXorFetch 1 2 8, 5, 0xedcba987ffffffef, 0xfffffffffffffff0, 5),
     (.atomicDwStxXchg 1 2 8, 5, 0x123456780000001f, 0xfffffffffffffff0, 5),
     (.atomicDwStxCmpxchg 1 2 8, 0xfffffffffffffff0, 0x123456780000001f, 0x123456780000001f, 0xfffffffffffffff0),
     (.atomicDwStxCmpxchg 1 2 8, 5, 0xfffffffffffffff0, 0x123456780000001f, 0xfffffffffffffff0)] : List (Instr × Word × Word × Word × Word)).all
      (atomicResult .dw .big) = true := by
  decide

/-! ### Calls, 64-bit immediates and packet access (sections 3.5, 3.8, 3.9) -/

/-- A state with the frames of return slots, the newest first, and a `pc`. -/
def called (rets : List Int) (pc : Int) : State :=
  { State.reset with
    pc := pc
    calls := rets.map fun r => .linux r (some 6) (some 7) (some 8) (some 9) (some 10) }

theorem test_call_local :
    after (fun t => decide (t.calls.map Frame.ret = [2] ∧ t.pc = 4)) (exec (.callKJmpLocal 2) (called [] 1)) = true ∧
      after (fun t => decide (t.calls.map Frame.ret = [6, 2] ∧ t.pc = 0))
        (exec (.callKJmpLocal 0xfffffffa) (called [2] 5)) = true := by
  decide

theorem test_exit_returns :
    after (fun t => decide (t.calls = [] ∧ t.pc = 2 ∧ t.reg 6 = some 6 ∧ t.reg 10 = some 10 ∧ t.reg 1 = none ∧
      t.reg 0 = some 0)) (exec .exitKJmp (called [2] 6)) = true := by
  decide

theorem test_exit_ends :
    after (fun t => decide (t.status = .ended (some 15))) (exec .exitKJmp (machine .little 0 [(0, 15)] [])) = true := by
  decide

/-- A platform with three helpers, one map, one variable and one code address, and nothing else. -/
def closedPlatform : Platform :=
  { resetPlatform with
    helpersById := { ids := [1, 2, 3], others := false }
    helpersByBtf := { ids := [301], others := false }
    mapByFd := { entries := [(5, 0x400000)], openWorld := false }
    mapByIdx := { entries := [(2, 0x400000), (2, 0x999)], openWorld := false }
    mapVal := { entries := [(0x400000, 0x500000)], openWorld := false }
    varAddr := { entries := [(7, 0x400000)], openWorld := false }
    codeAddr := { entries := [((0, 9), 0x400000)], openWorld := false } }

/-- The machine on that platform, with coming acts of the helpers. -/
def closed (acts : List HelperAct) : State := { State.reset with platform := closedPlatform, helperActs := acts }

/-- The act of a helper that returns 0x10, names r0 and r3, and stores two bytes, one of them twice. -/
def act : HelperAct := .returns 0x10 [(0, 1), (3, 4), (0, 2)] [(0x100, 1), (0x101, 2), (0x100, 3)]

theorem test_call_helper :
    after (fun t => decide (t.reg 0 = some 0x10 ∧ t.reg 3 = none ∧ t.reg 10 = some 0x10000 ∧
      t.mem = [(0x100, 3), (0x101, 2)] ∧ t.pc = 1)) (exec (.callKJmpHelper 3) (closed [act])) = true := by
  decide

theorem test_call_btf :
    after (fun t => decide (t.reg 0 = some 2 ∧ t.reg 3 = some 4 ∧ t.reg 10 = none ∧ t.helperActs = []))
      (exec (.callKJmpBtf 301) (isaOnly (closed [act]))) = true := by
  decide

theorem test_call_unknown_helper :
    faultOf (exec (.callKJmpHelper 7) (closed [act])) = some (.unknownHelper 7) ∧
      faultOf (exec (.callKJmpHelper 3) (closed [.fault])) = some (.helperFault 3) := by
  decide

theorem test_imm64 :
    ([(.immDwLdImm64 1 0x89abcdef 0x01234567, 0x0123456789abcdef), (.immDwLdImm64 1 0xffffffff 0, 0xffffffff),
      (.immDwLdMapfd 1 5, 0x400000), (.immDwLdMapfdVal 1 5 16, 0x500010), (.immDwLdVaraddr 1 7, 0x400000),
      (.immDwLdCodeaddr 1 9, 0x400000), (.immDwLdMapidx 1 2, 0x400000),
      (.immDwLdMapidxVal 1 2 0xffffffff, 0x4fffff)] : List (Instr × Word)).all
      (fun row => decide (regOf (exec row.1 (closed [])) 1 = some row.2) &&
        decide (pcOf (exec row.1 (closed [])) = some 2)) = true := by
  decide

theorem test_platform_lookup :
    ([(.immDwLdMapfd 1 6, .platformLookup 1 6), (.immDwLdMapfdVal 1 6 0, .platformLookup 2 6),
      (.immDwLdVaraddr 1 6, .platformLookup 3 6), (.immDwLdCodeaddr 1 6, .platformLookup 4 6),
      (.immDwLdMapidx 1 6, .platformLookup 5 6), (.immDwLdMapidxVal 1 6 0, .platformLookup 6 6)] : List (Instr × Fault)).all
      (fun row => decide (faultOf (exec row.1 (closed [])) = some row.2)) = true := by
  decide

theorem test_packet_refused :
    ([.absWLd 14, .absHLd 14, .absBLd 14, .indWLd 3 2, .indHLd 3 2, .indBLd 15 2] : List Instr).all
      (fun i => match exec i State.reset with
        | .refused .packet => true
        | _ => false) = true := by
  decide

/-! ### Faults (section 4) -/

/-- A slot of the program, of a little-endian host. -/
def slotOf (i : Instr) : Slot := (encodeFields i).1.slot .little

theorem test_pc_out_of_range :
    faultOf (step (running [slotOf .exitKJmp] 6)) = some (.pcOutOfRange 6) ∧
      faultOf (step (running [slotOf .exitKJmp] (-1))) = some (.pcOutOfRange (-1)) ∧
      faultOf (step (running [slotOf .exitKJmp] 1)) = some (.pcOutOfRange 1) := by
  decide

/-- A program whose second slot belongs to its first instruction. -/
def wideProgram : List Slot := encodeSlots .little (.immDwLdImm64 0 1 0) ++ [slotOf .exitKJmp]

theorem test_jump_into_wide : faultOf (step (running wideProgram 1)) = some (.jumpIntoWide 1) := by decide

theorem test_unsupported_group :
    faultOf (exec (.mulKAlu 1 2) (base32Only State.reset)) = some (.unsupportedGroup .divmul32) ∧
      faultOf (exec (.movKAlu64 1 2) (base32Only State.reset)) = some (.unsupportedGroup .base64) := by
  decide

/-- The machine after reset where r0 and r3 hold no value. -/
def emptied : State := State.reset.setRegs (putReg (putReg resetRegs 0 none) 3 none)

theorem test_uninit_register :
    faultOf (exec (.addXAlu64 1 3) emptied) = some (.uninitRegister 3) ∧
      faultOf (exec (.addKAlu64 0 1) emptied) = some (.uninitRegister 0) ∧
      faultOf (exec .exitKJmp emptied) = some (.uninitRegister 0) ∧ goesOn (exec .exitKJmp (isaOnly emptied)) = true := by
  decide

theorem test_uninit_destination_written : regOf (exec (.movKAlu64 0 1) emptied) 0 = some 1 := by decide

/-- One region of 0x100 bytes at 0x1000, for reading only. -/
def readOnly : Region := { base := 0x1000, len := 0x100, readable := true, writable := false, shared := false }

theorem test_mem_fault_region :
    faultOf (exec (.memWLdx 0 1 0) (within readOnly (machine .little 0 [(1, 0x3000)] []))) = some (.memFault 0x3000 4 .read) ∧
      faultOf (exec (.memWStx 1 2 0) (within readOnly (machine .little 0 [(1, 0x1000)] []))) =
        some (.memFault 0x1000 4 .write) ∧
      faultOf (exec (.memDwLdx 0 1 0xfffc) (splitting (machine .little 0 [(1, 2)] []))) =
        some (.memFault 0xfffffffffffffffe 8 .read) := by
  decide

theorem test_mem_fault_misaligned :
    faultOf (exec (.memWLdx 0 1 1) (machine .little 0 [(1, 0x1000)] [])) = some (.memFault 0x1001 4 .misaligned) ∧
      goesOn (exec (.memWLdx 0 1 1) (splitting (machine .little 0 [(1, 0x1000)] []))) = true ∧
      faultOf (exec (.atomicWStxAdd 1 2 2) (splitting (machine .little 0 [(1, 0x1000)] []))) =
        some (.memFault 0x1002 4 .misaligned) := by
  decide

/-- MAX_CALL_DEPTH. -/
def bounded (n : Nat) (s : State) : State := { s with platform := { s.platform with maxCallDepth := some n } }

theorem test_call_depth :
    faultOf (exec (.callKJmpLocal 0) (bounded 1 (called [2] 0))) = some .callDepth ∧
      goesOn (exec (.callKJmpLocal 0) (bounded 2 (called [2] 0))) = true := by
  decide

/-! ### Witnesses: a state and operands that meet the hypotheses of each statement -/

theorem witness_DecodeEncodeRoundTrip :
    (Instr.atomicDwStxCmpxchg 10 0 0x8000).WellFormed ∧ (∀ next, Instr.atomicDwStxCmpxchg 10 0 0x8000 ≠ .immNext next) ∧
      (Instr.immDwLdMapidxVal 10 0x80000000 0xffffffff).WellFormed ∧
      (∀ next, Instr.immDwLdMapidxVal 10 0x80000000 0xffffffff ≠ .immNext next) ∧
      encodeSlots .big (.immNext 0x11223344) = [⟨0, 0, 0, 0, 0x11, 0x22, 0x33, 0x44⟩] :=
  ⟨by decide, fun _ => by simp, by decide, fun _ => by simp, by decide⟩

theorem witness_DecodedBytesAreTheEncoding :
    decode .big [0x07, 0x10, 0, 0, 0x11, 0x22, 0x33, 0x44, 0xaa] = .ok (.addKAlu64 1 0x11223344, [0xaa]) := rfl

theorem witness_UnassignedOpcodesRefused :
    Slot.b0 ⟨0, 0, 0, 0, 5, 0, 0, 0⟩ ∉ assignedOpcodes ∧ Slot.b0 ⟨0x01, 0, 0, 0, 0, 0, 0, 0⟩ ∉ assignedOpcodes ∧ Slot.b0 ⟨0xff, 1, 2, 3, 4, 5, 6, 7⟩ ∉ assignedOpcodes := by
  decide

theorem witness_SecondSlotScan :
    isSecondSlot wideProgram 1 = true ∧ isSecondSlot wideProgram 2 = false ∧ isSecondSlot wideProgram 3 = false ∧
      isSecondSlot [⟨0x18, 0, 0, 0, 0, 0, 0, 0⟩] 1 = false := by
  decide

theorem witness_StepRunsDecodedInstruction :
    let s := running wideProgram 0
    s.status = .running ∧ 0 ≤ s.pc ∧ s.program[s.pc.toNat]? = some (Fields.slot .little ⟨0x18, 0, 0, 0, 1⟩) ∧
      isSecondSlot s.program s.pc.toNat = false ∧
      decodeSlots s.platform.endian (Fields.slot .little ⟨0x18, 0, 0, 0, 1⟩) s.program[s.pc.toNat + 1]? =
        .ok (.immDwLdImm64 0 1 0) ∧ s.interference = [] :=
  ⟨rfl, by decide, by decide, by decide, rfl, rfl⟩

/-- One state for each clause: below slot 0, just past the end, a second slot, and a slot that does not decode. -/
theorem witness_FetchFaults :
    ((running wideProgram (-1)).status = .running ∧ (running wideProgram (-1)).pc < 0) ∧
      ((running wideProgram 3).status = .running ∧ ((running wideProgram 3).program.length : Int) ≤ (running wideProgram 3).pc) ∧
      ((running wideProgram 1).status = .running ∧ 0 ≤ (running wideProgram 1).pc ∧
        (running wideProgram 1).pc < (running wideProgram 1).program.length ∧
        isSecondSlot (running wideProgram 1).program (running wideProgram 1).pc.toNat = true) ∧
      let s := running [⟨0xff, 0, 0, 0, 0, 0, 0, 0⟩] 0
      s.status = .running ∧ 0 ≤ s.pc ∧ s.program[s.pc.toNat]? = some ⟨0xff, 0, 0, 0, 0, 0, 0, 0⟩ ∧
        isSecondSlot s.program s.pc.toNat = false ∧
        decodeSlots s.platform.endian ⟨0xff, 0, 0, 0, 0, 0, 0, 0⟩ s.program[s.pc.toNat + 1]? = .error (.unassignedOpcode 0xff) :=
  ⟨by decide, by decide, by decide, rfl, by decide, rfl, by decide, rfl⟩

theorem witness_EndedRunStays : (State.reset.setStatus (.ended none)).status = .ended none := rfl

/-- Registers and groups at their boundary: r10 is a destination, r0 a source that holds 0. -/
theorem witness_arithmetic :
    (10 : Reg).Valid ∧ (0 : Reg).Valid ∧ State.reset.reg 10 = some 0x10000 ∧ State.reset.reg 0 = some 0 ∧
      ([.add, .sub, .mul, .div, .sdiv, .or, .and, .lsh, .rsh, .mod, .smod, .xor, .arsh] : List ArithCode).all
        (fun c => supports State.reset.platform.groups c.group32 && supports State.reset.platform.groups c.group64) = true ∧
      ArithCode.smod.group32 = .divmul32 ∧ ArithCode.arsh.group64 = .base64 := by
  decide

theorem witness_ArithResults32 :
    (10 : Reg).Valid ∧ supports State.reset.platform.groups ArithCode.sdiv.group32 = true ∧
      State.reset.reg 10 = some 0x10000 ∧ (0 : Reg).Valid ∧ State.reset.reg 0 = some 0 := by
  decide

theorem witness_ArithResults64 :
    (10 : Reg).Valid ∧ supports State.reset.platform.groups ArithCode.smod.group64 = true ∧
      State.reset.reg 10 = some 0x10000 ∧ (0 : Reg).Valid ∧ State.reset.reg 0 = some 0 := by
  decide

theorem witness_NegateAndMove32 :
    (10 : Reg).Valid ∧ State.reset.reg 10 = some 0x10000 ∧ (1 : Reg).Valid ∧ State.reset.reg 1 = some 0x2000 := by
  decide

theorem witness_NegateAndMove64 :
    (10 : Reg).Valid ∧ supports State.reset.platform.groups .base64 = true ∧ State.reset.reg 10 = some 0x10000 ∧
      (1 : Reg).Valid ∧ State.reset.reg 1 = some 0x2000 := by
  decide

/-- A register whose low half only is zero, for the X forms of class ALU, and one that is zero, for those of class ALU64. -/
theorem witness_DivisionByZero :
    let s := machine .little 0 [(1, 0xffffffffffffffff), (2, 0x100000000), (10, 0)] []
    (1 : Reg).Valid ∧ s.reg 1 = some 0xffffffffffffffff ∧ supports s.platform.groups .divmul32 = true ∧ (2 : Reg).Valid ∧
      s.reg 2 = some 0x100000000 ∧ (0x100000000 : Word).toNat % 2 ^ 32 = 0 ∧
      supports s.platform.groups .divmul64 = true ∧ (10 : Reg).Valid ∧ s.reg 10 = some 0 := by
  decide

theorem witness_ModuloByZero :
    let s := machine .big 0 [(0, 0xffffffffffffffff), (2, 0x100000000), (10, 0)] []
    (0 : Reg).Valid ∧ s.reg 0 = some 0xffffffffffffffff ∧ supports s.platform.groups .divmul32 = true ∧ (2 : Reg).Valid ∧
      s.reg 2 = some 0x100000000 ∧ (0x100000000 : Word).toNat % 2 ^ 32 = 0 ∧
      supports s.platform.groups .divmul64 = true ∧ (10 : Reg).Valid ∧ s.reg 10 = some 0 := by
  decide

/-- The one overflow and an ordinary pair (-13 and 3), in both classes. -/
theorem witness_SignedDivisionLaw :
    let s := machine .little 0 [(0, 0x8000000080000000), (1, 0xffffffffffffffff), (2, 0xfffffffffffffff3), (3, 3)] []
    let m := machine .little 0 [(0, 0x8000000000000000), (1, 0xffffffffffffffff)] []
    supports s.platform.groups .divmul64 = true ∧ supports s.platform.groups .divmul32 = true ∧
      s.reg 0 = some 0x8000000080000000 ∧ s.reg 1 = some 0xffffffffffffffff ∧
      ((0x8000000080000000 : Word).setWidth 32).toInt = -2 ^ 31 ∧ ((0xffffffffffffffff : Word).setWidth 32).toInt = -1 ∧
      s.reg 2 = some 0xfffffffffffffff3 ∧ s.reg 3 = some 3 ∧ (3 : Word).toInt ≠ 0 ∧ ((3 : Word).setWidth 32).toInt ≠ 0 ∧
      m.reg 0 = some 0x8000000000000000 ∧ (0x8000000000000000 : Word).toInt = -2 ^ 63 ∧
      m.reg 1 = some 0xffffffffffffffff ∧ (0xffffffffffffffff : Word).toInt = -1 := by
  decide

theorem witness_SameRegisterOperands :
    (10 : Reg).Valid ∧ (machine .little 0 [(10, 0xffffffff00000000)] []).reg 10 = some 0xffffffff00000000 ∧
      supports State.reset.platform.groups .base64 = true ∧ supports State.reset.platform.groups .divmul64 = true := by
  decide

theorem witness_ThirtyTwoBitResultsClearUpperHalf :
    (∃ t, exec (.movXAlu 0 10) State.reset = .next t) ∧ (encodeFields (.movXAlu 0 10)).1.opcode.toNat % 8 = 4 ∧
      (encodeFields (.movXAlu 0 10)).1.opcode ≠ 0xd4 ∧ (encodeFields (.movXAlu 0 10)).1.opcode ≠ 0xdc ∧
      (∃ t, exec (.atomicWStxCmpxchg 10 1 0) State.reset = .next t) ∧
      (encodeFields (.atomicWStxCmpxchg 10 1 0)).1.opcode = 0xc3 :=
  ⟨next_of_goesOn (by decide), by decide, by decide, by decide, ⟨_, rfl⟩, by decide⟩

theorem witness_ByteSwapResults :
    (10 : Reg).Valid ∧ (machine .big 0 [(10, 0x0123456789abcdef)] []).reg 10 = some 0x0123456789abcdef ∧
      supports resetPlatform.groups .base64 = true ∧ (machine .big 0 [] []).platform.endian = .big := by
  decide

theorem witness_ByteSwapTwice :
    ∃ t u, State.reset.reg 10 = some 0x10000 ∧ exec (.endToAlu6464 10) State.reset = .next t ∧
      exec (.endToAlu6464 10) t = .next u :=
  ⟨_, _, rfl, rfl, rfl⟩

/-- Operands that are equal, and operands whose order differs signed and unsigned. -/
theorem witness_BranchResults64 :
    let s := machine .little 0 [(0, 0x8000000000000000), (10, 1)] []
    (0 : Reg).Valid ∧ supports s.platform.groups .base64 = true ∧ s.reg 0 = some 0x8000000000000000 ∧ (10 : Reg).Valid ∧
      s.reg 10 = some 1 ∧ CondCode.slt.Holds (0x8000000000000000 : Word) 1 ∧ ¬ CondCode.lt.Holds (0x8000000000000000 : Word) 1 ∧
      CondCode.le.Holds (1 : Word) 1 ∧ ¬ CondCode.gt.Holds (1 : Word) 1 :=
  ⟨by decide, by decide, by decide, by decide, by decide, by simp [CondCode.Holds], by simp [CondCode.Holds],
    by simp [CondCode.Holds], by simp [CondCode.Holds]⟩

theorem witness_BranchResults32 :
    let s := base32Only (machine .little 0 [(0, 0xffffffff80000000), (10, 0x100000001)] [])
    (0 : Reg).Valid ∧ s.reg 0 = some 0xffffffff80000000 ∧ (10 : Reg).Valid ∧ s.reg 10 = some 0x100000001 ∧
      CondCode.slt.Holds ((0xffffffff80000000 : Word).setWidth 32) ((0x100000001 : Word).setWidth 32) ∧
      ¬ CondCode.set.Holds ((0xffffffff80000000 : Word).setWidth 32) ((0x100000001 : Word).setWidth 32) :=
  ⟨by decide, by decide, by decide, by decide, by simp [CondCode.Holds], by simp only [CondCode.Holds]; decide⟩

theorem witness_HelperCallLinux :
    (closed [act]).platform.callConv = .linux ∧ hasHelper (closed [act]).platform.helpersById 3 = true ∧
      hasHelper (closed [act]).platform.helpersByBtf 301 = true ∧ (closed [act]).helperActs = act :: [] ∧
      (∀ c ∈ [((0x101 : Nat), (2 : Byte)), (0x100, 3)], c.1 ≠ (0xff : Word).toNat) ∧
      Admitted (closed [act]).platform 0x100 1 .write ∧
      ¬ Admitted (within readOnly (closed [act])).platform 0x100 1 .write :=
  ⟨by decide, by decide, by decide, rfl, by decide, admits_iff.mp (by decide), fun h => absurd (admits_iff.mpr h) (by decide)⟩

/-- r0 is named twice, r3 once, r1 and r10 not at all; the byte 0x100 is stored twice, 0x101 once, 0xff not at all. -/
theorem witness_HelperCallIsaOnly :
    (isaOnly (closed [act])).platform.callConv = .isaOnly ∧ hasHelper (isaOnly (closed [act])).platform.helpersById 1 = true ∧
      hasHelper (isaOnly (closed [act])).platform.helpersByBtf 301 = true ∧ (isaOnly (closed [act])).helperActs = act :: [] ∧
      ([(0, 1), (3, 4), (0, 2)] : List (Fin 11 × Word)) = [(0, 1), (3, 4)] ++ (0, 2) :: [] ∧
      ([(0, 1), (3, 4), (0, 2)] : List (Fin 11 × Word)) = [(0, 1)] ++ (3, 4) :: [(0, 2)] ∧
      (∀ e ∈ ([(0, 1), (3, 4), (0, 2)] : List (Fin 11 × Word)), e.1 ≠ 10) ∧
      ([(0x100, 1), (0x101, 2), (0x100, 3)] : List Host.Cell) =
        [(0x100, 1), (0x101, 2)] ++ ((0x100 : Word).toNat, 3) :: [] ∧
      ∀ c ∈ ([(0x100, 1), (0x101, 2), (0x100, 3)] : List Host.Cell), c.1 ≠ (0xff : Word).toNat :=
  ⟨rfl, by decide, by decide, rfl, rfl, rfl, by simp, rfl, by decide⟩

/-- A store of a helper outside the bytes that the program may write: dropped under linux, made under isa_only. -/
theorem test_helper_stores :
    memOf (exec (.callKJmpHelper 3) (within readOnly (closed [act]))) = some [] ∧
      memOf (exec (.callKJmpHelper 3) (within readOnly (isaOnly (closed [act])))) = some [(0x100, 3), (0x101, 2)] := by
  decide

/-- Under linux, with a byte that may not be written, and under isa_only. -/
theorem witness_HelperCallUnlisted :
    hasHelper (closed []).platform.helpersById 2 = true ∧ (closed []).helperActs = [] ∧
      (within readOnly (closed [])).platform.callConv = .linux ∧
      hasHelper (isaOnly State.reset).platform.helpersByBtf 0xffffffff = true ∧
      ¬ Admitted (within readOnly (closed [])).platform 0x1000 1 .write :=
  ⟨by decide, by decide, by decide, by decide, fun h => absurd (admits_iff.mpr h) (by decide)⟩

theorem witness_HelperCallFaults :
    hasHelper (closed [act]).platform.helpersById 0 = false ∧ hasHelper (closed [act]).platform.helpersByBtf 3 = false ∧
      hasHelper (closed [.fault]).platform.helpersById 1 = true ∧ (closed [.fault]).helperActs = .fault :: [] := by
  decide

/-- The two regions of program P5 of 95_test_vectors.md section 5, of which r10 holds the top of the upper one, and the frame
pointer that the platform lists for the first callee. -/
def stacked (top : Word) : State :=
  { State.reset with
    platform :=
      { resetPlatform with
        regions := [⟨0xfe00, 0x200, true, true, false⟩, ⟨0xfc00, 0x200, true, true, false⟩]
        framePointers := [top] } }

/-- At one below the depth bound; a fresh frame pointer, listed for this depth. -/
theorem witness_LocalCallResults :
    (∀ bound, (bounded 2 (called [2] 0)).platform.maxCallDepth = some bound → (bounded 2 (called [2] 0)).calls.length < bound) ∧
      (bounded 2 (called [2] 0)).platform.callConv = .linux ∧ (isaOnly State.reset).platform.callConv = .isaOnly ∧
      (isaOnly State.reset).platform.maxCallDepth = none ∧ (stacked 0xfe00).platform.maxCallDepth = none ∧
      (stacked 0xfe00).platform.framePointers[(stacked 0xfe00).calls.length]? = some 0xfe00 ∧
      FreshTop (stacked 0xfe00) 0xfe00 ∧ PrivateTop (within readOnly State.reset) 0xfe00 ∧
      ApartTop (within ⟨0, 2 ^ 64, true, true, true⟩ State.reset) 0xfe00 :=
  ⟨fun b h => by cases h; decide, rfl, rfl, rfl, rfl, rfl, freshTop_iff.mp (by decide), privateTop_iff.mp (by decide),
    apartTop_iff.mp (by decide)⟩

/-- At the bound; and an instruction that is the fault. -/
theorem witness_CallDepthFault :
    (bounded 1 (called [2] 0)).platform.maxCallDepth = some 1 ∧ 1 ≤ (bounded 1 (called [2] 0)).calls.length ∧
      faultOf (exec (.callKJmpLocal 7) (bounded 0 State.reset)) = some .callDepth := by
  decide

theorem witness_ExitReturns :
    ({ State.reset with calls := [.isaOnly (-1)] } : State).calls = .isaOnly (-1) :: [] ∧
      (called [2] 6).calls = .linux 2 (some 6) (some 7) (some 8) (some 9) (some 10) :: [] :=
  ⟨rfl, rfl⟩

theorem witness_ExitEndsRun :
    State.reset.calls = [] ∧ State.reset.platform.callConv = .linux ∧ State.reset.reg 0 = some 0 ∧ emptied.calls = [] ∧
      emptied.platform.callConv = .linux ∧ emptied.reg 0 = none ∧ (isaOnly emptied).platform.callConv = .isaOnly := by
  decide

theorem witness_CallThenExitRestores :
    (∃ t v, exec (.callKJmpLocal 5) State.reset = .next t ∧ exec .exitKJmp t = .next v ∧
      State.reset.platform.callConv = .linux) ∧
    ∃ t v, exec (.callKJmpLocal 5) (isaOnly State.reset) = .next t ∧ exec .exitKJmp t = .next v ∧
      (isaOnly State.reset).platform.callConv = .isaOnly :=
  ⟨⟨_, _, rfl, rfl, rfl⟩, ⟨_, _, rfl, rfl, rfl⟩⟩

/-- The lower region is the one fresh stack: its first and its last byte, which the caller's stack does not hold. -/
theorem witness_CalleeStackUsable :
    (stacked 0xfe00).platform.callConv = .linux ∧ FreshTop (stacked 0xfe00) 0xfe00 ∧
      (∃ t, exec (.callKJmpLocal 0) (stacked 0xfe00) = .next t) ∧ MemKind.atomic ≠ .misaligned ∧
      (0xfc00 : Word).toNat + 0x200 ≤ (0xfe00 : Word).toNat ∧
      (0xfe00 : Word).toNat ≤ (0xfc00 : Word).toNat + (stacked 0xfe00).platform.stackSize ∧
      StackByte (stacked 0xfe00).platform 0xfe00 0xfc00 ∧ StackByte (stacked 0xfe00).platform 0xfe00 0xfdff ∧
      0x10000 ∈ (stacked 0xfe00).stackTops :=
  ⟨rfl, freshTop_iff.mp (by decide), next_of_goesOn (by decide), by decide, by decide, by decide, by simp only [StackByte]; decide,
    by simp only [StackByte]; decide, by decide⟩

/-- A step that takes the fresh stack of P5, with r10 overwritten by its frame pointer. -/
theorem witness_StacksInUseStayApart :
    let s := ({ stacked 0xfe00 with program := [slotOf (.callKJmpLocal 0)] } : State).writeReg 10 0xfe00
    StacksApart s ∧ ApartTop s 0xfe00 ∧ ∃ t, step s = .next t :=
  ⟨List.pairwise_singleton _ _, apartTop_iff.mp (by decide), next_of_goesOn (by decide)⟩

/-- The callee of P5 is given the top of the lower region, whose 512 bytes it may use with the upper region. -/
theorem test_callee_stack :
    regOf (exec (.callKJmpLocal 0) (stacked 0xfe00)) 10 = some 0xfe00 ∧
      performs (stacked 0xfe00).platform 0xfc00 8 .atomic = true ∧ performs (stacked 0xfe00).platform 0xfdff 1 .write = true ∧
      performs (stacked 0xfe00).platform 0xfbff 1 .read = false := by
  decide

/-- What the program writes into r10 changes nothing about the callee's stack. -/
theorem test_callee_stack_after_write :
    regOf (exec (.callKJmpLocal 0) ((stacked 0xfe00).writeReg 10 0xfe00)) 10 = some 0xfe00 ∧
      after (fun t => decide (t.stackTops = [0xfe00, 0x10000])) (exec (.callKJmpLocal 0) ((stacked 0xfe00).writeReg 10 0)) = true := by
  decide

/-- A callee that finds no fresh stack is still given one that no active function uses. -/
theorem test_callee_stack_unsupplied :
    let s := within ⟨0xfe00, 0x200, true, true, false⟩ State.reset
    ((stackEdges s).any (freshTop s) = false ∧ apartTop s 0xfe00 = true) ∧ ApartTop s (calleeFramePointer s) :=
  ⟨by decide, calleeFramePointer_apart ⟨0xfe00, apartTop_iff.mp (by decide)⟩⟩

/-- A listed frame pointer that is the caller's own is not fresh: the callee is given the other region all the same. -/
theorem test_callee_stack_not_shared :
    freshTop (stacked 0x10000) 0x10000 = false ∧ regOf (exec (.callKJmpLocal 0) (stacked 0x10000)) 10 ≠ some 0x10000 := by
  have hnot : freshTop (stacked 0x10000) 0x10000 = false := by decide
  refine ⟨hnot, fun h => ?_⟩
  have hfresh := calleeFramePointer_fresh ⟨0xfe00, freshTop_iff.mp (show freshTop (stacked 0x10000) 0xfe00 = true by decide)⟩
  rw [Option.some.inj (show some (calleeFramePointer (stacked 0x10000)) = some 0x10000 from h)] at hfresh
  exact Bool.false_ne_true (hnot.symm.trans (freshTop_iff.mpr hfresh))

/-- The last byte of the address space, an aligned access below r10, and a misaligned one that is split. -/
theorem witness_LoadResults :
    (10 : Reg).Valid ∧ (0 : Reg).Valid ∧ (machine .big 0 [(0, 0xffffffffffffffff)] []).reg 0 = some 0xffffffffffffffff ∧
      supports resetPlatform.groups Size.dw.group = true ∧
      AccessAllowed State.reset.platform (effectiveAddress 0xffffffffffffffff 0) 1 .read ∧
      AccessAllowed State.reset.platform (effectiveAddress 0xffffffffffffffff 0xfff9) 8 .read ∧
      AccessAllowed (splitting State.reset).platform (effectiveAddress 0xffffffffffffffff 0xfff8) 8 .read ∧
      AccessAllowed State.reset.platform (effectiveAddress 0x10000 0xfffe) 2 .read ∧
      AccessAllowed State.reset.platform (effectiveAddress 0x10000 0x7ffc) 4 .read :=
  ⟨by decide, by decide, by decide, by decide, allowed_of_performs (by decide), allowed_of_performs (by decide),
    allowed_of_performs (by decide), allowed_of_performs (by decide), allowed_of_performs (by decide)⟩

theorem witness_StoreResults :
    (10 : Reg).Valid ∧ State.reset.reg 10 = some 0x10000 ∧ supports resetPlatform.groups Size.dw.group = true ∧
      AccessAllowed State.reset.platform (effectiveAddress 0x10000 0xfff8) 8 .write ∧
      AccessAllowed (splitting State.reset).platform (effectiveAddress 0x10000 0xffff) 8 .write ∧
      (1 : Reg).Valid ∧ State.reset.reg 1 = some 0x2000 :=
  ⟨by decide, by decide, by decide, allowed_of_performs (by decide), allowed_of_performs (by decide), by decide, by decide⟩

/-- The state with one readable region and MISALIGNED = split in which r1 points four bytes before the region's end. -/
def splitAtEnd : State := splitting (within readOnly (machine .little 0 [(1, 0x10fc)] []))

/-- One state for each clause: misaligned; not admitted; split across the wrap; split with a byte that is not admitted. -/
theorem witness_MemFaults :
    (accessOf (.memDwLdx 0 1 0xffff) = some (1, 0xffff, .dw, .read) ∧ (Instr.memDwLdx 0 1 0xffff).WellFormed ∧
      supports resetPlatform.groups (groupOf (.memDwLdx 0 1 0xffff)) = true ∧
      accessOf (.memDwLdx 0 1 0) = some (1, 0, .dw, .read) ∧ (Instr.memDwLdx 0 1 0).WellFormed ∧
      readsOf (.memDwLdx 0 1 0) = [1] ∧ readsOf (.memDwLdx 0 1 0xffff) = [1]) ∧
    (State.reset.reg 1 = some 0x2000 ∧ (effectiveAddress 0x2000 0xffff).toNat % 8 ≠ 0 ∧
      State.reset.platform.misaligned = .fault) ∧
    ((within readOnly State.reset).reg 1 = some 0x2000 ∧ (effectiveAddress 0x2000 0).toNat % 8 = 0 ∧
      ¬ Admitted (within readOnly State.reset).platform (effectiveAddress 0x2000 0) 8 .read) ∧
    ((splitting (machine .little 0 [(1, 0)] [])).reg 1 = some 0 ∧
      (splitting (machine .little 0 [(1, 0)] [])).platform.misaligned = .split ∧ (effectiveAddress 0 0xffff).toNat % 8 ≠ 0 ∧
      2 ^ 64 < (effectiveAddress 0 0xffff).toNat + 8) ∧
    (splitAtEnd.reg 1 = some 0x10fc ∧ splitAtEnd.platform.misaligned = .split ∧ (effectiveAddress 0x10fc 0).toNat % 8 ≠ 0 ∧
      (effectiveAddress 0x10fc 0).toNat + 8 ≤ 2 ^ 64 ∧
      (∀ l < 4, Admitted splitAtEnd.platform (effectiveAddress 0x10fc 0 + BitVec.ofNat 64 l) 1 .read) ∧
      ¬ Admitted splitAtEnd.platform (effectiveAddress 0x10fc 0 + BitVec.ofNat 64 4) 1 .read) :=
  ⟨⟨rfl, by decide, by decide, rfl, by decide, rfl, rfl⟩, by decide,
    ⟨by decide, by decide, fun h => absurd (admits_iff.mpr h) (by decide)⟩, by decide,
    ⟨by decide, rfl, by decide, by decide, fun l hl => admits_iff.mp (by revert l; decide),
      fun h => absurd (admits_iff.mpr h) (by decide)⟩⟩

theorem witness_StoreThenLoad :
    (10 : Reg).Valid ∧ State.reset.reg 10 = some 0x10000 ∧ State.reset.reg 1 = some 0x2000 ∧
      (∃ t, exec (Size.dw.storeReg 10 1 0xfff8) State.reset = .next t) ∧
      AccessAllowed State.reset.platform (effectiveAddress 0x10000 0xfff8) 8 .read :=
  ⟨by decide, by decide, by decide, next_of_goesOn (by decide), allowed_of_performs (by decide)⟩

theorem witness_NarrowReadAfterWideStore :
    (∃ t, memWrite State.reset 0xfffffffffffffffc .w 0x11223344 = .ok t) ∧
      Admitted State.reset.platform 0xfffffffffffffffc 1 .read ∧ Admitted State.reset.platform (0xfffffffffffffffc + 3) 1 .read :=
  ⟨⟨_, rfl⟩, admits_iff.mp (by decide), admits_iff.mp (by decide)⟩

theorem witness_AtomicPlainResults :
    (10 : Reg).Valid ∧ (1 : Reg).Valid ∧ supports resetPlatform.groups AtomicSize.dw.group = true ∧
      supports resetPlatform.groups AtomicSize.w.group = true ∧ State.reset.reg 10 = some 0x10000 ∧
      State.reset.reg 1 = some 0x2000 ∧ AccessAllowed State.reset.platform (effectiveAddress 0x10000 0xfff8) 8 .atomic ∧
      AccessAllowed State.reset.platform (effectiveAddress 0x10000 0xfffc) 4 .atomic :=
  ⟨by decide, by decide, by decide, by decide, by decide, by decide, allowed_of_performs (by decide),
    allowed_of_performs (by decide)⟩

/-- The same register as base and source. -/
theorem witness_AtomicFetchResults :
    (10 : Reg).Valid ∧ supports resetPlatform.groups AtomicSize.dw.group = true ∧ State.reset.reg 10 = some 0x10000 ∧
      AccessAllowed State.reset.platform (effectiveAddress 0x10000 0) 8 .atomic :=
  ⟨by decide, by decide, by decide, allowed_of_performs (by decide)⟩

theorem witness_AtomicExchangeResults :
    (0 : Reg).Valid ∧ (10 : Reg).Valid ∧ supports resetPlatform.groups AtomicSize.w.group = true ∧
      State.reset.reg 0 = some 0 ∧ State.reset.reg 10 = some 0x10000 ∧
      AccessAllowed State.reset.platform (effectiveAddress 0 0xfffc) 4 .atomic :=
  ⟨by decide, by decide, by decide, by decide, by decide, allowed_of_performs (by decide)⟩

/-- A datum equal to the low half of r0, and one that is not. -/
theorem witness_AtomicCompareResults :
    let s := machine .little 0 [(0, 0xaaaaaaaa00000005)] [(0x2000, 5), (0x2001, 0), (0x2002, 0), (0x2003, 0), (0x2004, 6)]
    (1 : Reg).Valid ∧ (10 : Reg).Valid ∧ supports s.platform.groups AtomicSize.w.group = true ∧ s.reg 1 = some 0x2000 ∧
      s.reg 10 = some 0x10000 ∧ AccessAllowed s.platform (effectiveAddress 0x2000 0) 4 .atomic ∧
      s.reg 0 = some 0xaaaaaaaa00000005 ∧ hostValue .little (bytesAt s 0x2000 4) = 5 ∧
      (hostValue .little (bytesAt s 0x2000 4) = (0xaaaaaaaa00000005 : Word).toNat % 256 ^ 4) :=
  ⟨by decide, by decide, by decide, by decide, by decide, allowed_of_performs (by decide), by decide, by decide, by decide⟩

theorem witness_ImmediateLoad64 : (10 : Reg).Valid ∧ supports State.reset.platform.groups .base64 = true := by decide

/-- Listed entries, the first of two for one key among them, and a free value of an open table. -/
theorem witness_PlatformAddressResults :
    (10 : Reg).Valid ∧ supports (closed []).platform.groups .base64 = true ∧
      TableGives (closed []).platform.mapByFd Config.mapByFd 5 0x400000 ∧
      TableGives (closed []).platform.mapByIdx Config.mapByIdx 2 0x400000 ∧
      TableGives (closed []).platform.mapVal Config.mapVal 0x400000 0x500000 ∧
      TableGives (closed []).platform.varAddr Config.varAddr 7 0x400000 ∧
      TableGives (closed []).platform.codeAddr Config.codeAddr ((closed []).pc, 9) 0x400000 ∧
      TableGives State.reset.platform.varAddr Config.varAddr 7 (Config.varAddr 7) :=
  ⟨by decide, by decide, .inl ⟨[], [], rfl, by simp⟩, .inl ⟨[], [(2, 0x999)], rfl, by simp⟩, .inl ⟨[], [], rfl, by simp⟩,
    .inl ⟨[], [], rfl, by simp⟩, .inl ⟨[], [], rfl, by simp⟩, .inr ⟨by simp [State.reset, State.launch, resetPlatform], rfl, rfl⟩⟩

/-- The machine on that platform without the value of the map. -/
def valueless : State :=
  { closed [] with platform := { closedPlatform with mapVal := { entries := [], openWorld := false } } }

theorem witness_PlatformLookupFaults :
    (10 : Reg).Valid ∧ supports (closed []).platform.groups .base64 = true ∧
      TableAbsent (closed []).platform.mapByFd 4 ∧ TableAbsent (closed []).platform.mapByIdx 3 ∧
      TableAbsent (closed []).platform.varAddr 8 ∧ TableAbsent (closed []).platform.codeAddr ((closed []).pc, 8) ∧
      TableGives valueless.platform.mapByFd Config.mapByFd 5 0x400000 ∧
      TableGives valueless.platform.mapByIdx Config.mapByIdx 2 0x400000 ∧ TableAbsent valueless.platform.mapVal 0x400000 := by
  refine ⟨by decide, by decide, ?_, ?_, ?_, ?_, .inl ⟨[], [], rfl, by simp⟩, .inl ⟨[], [(2, 0x999)], rfl, by simp⟩, ?_⟩
  all_goals simp [TableAbsent, closed, closedPlatform, valueless, State.reset, State.launch]

theorem witness_ChecksBeforeExecution :
    groupOf (.addXAlu64 1 11) ≠ .packet ∧ ¬ (Instr.addXAlu64 1 11).WellFormed ∧ (Instr.addXAlu64 10 10).WellFormed ∧
      (∀ next, Instr.addXAlu64 10 10 ≠ .immNext next) ∧
      supports (base32Only State.reset).platform.groups (groupOf (.addXAlu64 10 10)) = false :=
  ⟨by decide, by decide, by decide, fun _ => by simp, by decide⟩

/-- Each premise and its complement. -/
theorem witness_GroupClosure :
    supports ⟨false, false, true, false, false, false⟩ .atomic64 = true ∧
      supports ⟨false, false, true, false, false, false⟩ .divmul32 = false ∧
      supports ⟨false, false, false, false, true, false⟩ .divmul64 = true ∧
      supports ⟨false, false, false, false, false, true⟩ .packet = true ∧
      supports ⟨false, false, false, false, false, false⟩ .base64 = false := by
  decide

/-- The second and the third register read, after registers that hold values. -/
theorem witness_UninitRegisterFaults :
    (Instr.atomicDwStxCmpxchg 10 1 0).WellFormed ∧
      supports emptied.platform.groups (groupOf (.atomicDwStxCmpxchg 10 1 0)) = true ∧
      readsOf (.atomicDwStxCmpxchg 10 1 0) = [10, 1] ++ 0 :: [] ∧ (∀ q ∈ ([10, 1] : List Reg), emptied.reg q ≠ none) ∧
      emptied.reg 0 = none := by
  decide

theorem witness_RegisterFrame :
    (∃ t, exec (.atomicDwStxXchg 10 1 0) State.reset = .next t) ∧ 10 ∉ writesOf (.atomicDwStxXchg 10 1 0) ∧
      15 ∉ writesOf (.atomicDwStxXchg 10 1 0) :=
  ⟨⟨_, rfl⟩, by decide, by decide⟩

/-- A store, and the bytes on both sides of what it stores; a load, which stores nothing. -/
theorem witness_MemoryFrame :
    (∃ t, exec (.memHSt 10 0xfffe 0x1234) State.reset = .next t) ∧ isHelperCall (.memHSt 10 0xfffe 0x1234) = false ∧
      StoresTo (.memHSt 10 0xfffe 0x1234) State.reset 0xffff ∧
      ¬ StoresTo (.memHSt 10 0xfffe 0x1234) State.reset 0x10000 ∧ ¬ StoresTo (.memHLdx 0 10 0xfffe) State.reset 0xffff := by
  refine ⟨next_of_goesOn (by decide), rfl, ⟨10, 0xfffe, .h, .write, 0x10000, 1, rfl, by decide, rfl, by decide, by decide⟩, ?_, ?_⟩
  · rintro ⟨r, off, size, kind, base, k, ha, -, hb, hk, he⟩
    obtain ⟨rfl, rfl, rfl, rfl⟩ : r = 10 ∧ off = 0xfffe ∧ size = .h ∧ kind = .write := by simpa [accessOf, eq_comm] using ha
    obtain rfl : base = 0x10000 := by simpa using (Option.some.inj hb).symm
    revert he
    rcases k with _ | _ | k
    · decide
    · decide
    · simp [Size.bytes] at hk
  · rintro ⟨r, off, size, kind, base, k, ha, hr, -⟩
    obtain ⟨-, -, -, rfl⟩ : r = 10 ∧ off = 0xfffe ∧ size = .h ∧ kind = .read := by simpa [accessOf, eq_comm] using ha
    exact hr rfl

theorem witness_RestFrame :
    (∃ t, exec (.callKJmpLocal 0xffffffff) State.reset = .next t) ∧ Instr.callKJmpLocal 0xffffffff ≠ .exitKJmp ∧
      isHelperCall (.callKJmpLocal 0xffffffff) = false ∧ (∃ t, exec (.addKAlu 0 1) State.reset = .next t) ∧
      (∀ imm, Instr.addKAlu 0 1 ≠ .callKJmpLocal imm) :=
  ⟨next_of_goesOn (by decide), by decide, rfl, next_of_goesOn (by decide), fun _ => by simp⟩

/-- The five ways: one slot, two slots, a displacement, a return, the end of the run. -/
theorem witness_PcMovesByText :
    (∃ t, exec (.movKAlu 0 1) State.reset = .next t) ∧ (∃ t, exec (.immDwLdImm64 0 1 0) State.reset = .next t) ∧
      (∃ t, exec (.jaKJmp 0x8000) State.reset = .next t) ∧ (∃ t, exec .exitKJmp (called [2] 6) = .next t) ∧
      ∃ t, exec .exitKJmp State.reset = .next t :=
  ⟨next_of_goesOn (by decide), next_of_goesOn (by decide), next_of_goesOn (by decide), next_of_goesOn (by decide),
    next_of_goesOn (by decide)⟩

/-- A store on top of two listed bytes, one of which it replaces. -/
theorem witness_StepKeepsMemoryCanonical :
    let s : State := { running [slotOf (.memHSt 10 0xfffe 0x1234)] 0 with mem := [(0xfffe, 1), (0x10000, 2)] }
    Memory.wf s.mem ∧ ∃ t, step s = .next t :=
  ⟨by decide, next_of_goesOn (by decide)⟩

/-- A call at one below the depth bound. -/
theorem witness_StepKeepsCallsLegal :
    let s : State := bounded 2 { called [2] 0 with program := [slotOf (.callKJmpLocal 0)] }
    CallsLegal s ∧ ∃ t, step s = .next t :=
  ⟨⟨by simp [bounded, called, Frame.Follows, State.reset, State.launch, resetPlatform], fun b h => by cases h; decide⟩,
    next_of_goesOn (by decide)⟩

/-- A private region and a shared one that overlap in the byte 0x10. -/
def sharing : State :=
  { State.reset with
    platform :=
      { resetPlatform with regions := [⟨0, 0x11, true, true, false⟩, ⟨0x10, 0x10, true, true, true⟩] } }

theorem witness_EnvironmentStores :
    PrivateByte sharing.platform 0x10 ∧ ¬ SharedByte sharing.platform 0x20 ∧ SharedByte sharing.platform 0x1f ∧
      ¬ PrivateByte sharing.platform 0x1f := by
  simp only [PrivateByte, SharedByte]
  decide

/-- A program with a wide instruction and a jump over it, at its start. -/
theorem witness_LoadedProgramsRunLegally :
    let s := running (slotOf (.jaKJmp 2) :: wideProgram) 0
    Loaded s ∧ (∃ t, step s = .next t) ∧
      Loaded (running wideProgram 3) ∧ step (running wideProgram 3) = .fault (.pcOutOfRange 3) :=
  ⟨⟨by decide, .inl (by decide), by simp [running, State.reset, State.launch]⟩, next_of_goesOn (by decide),
    ⟨by decide, .inr (by decide), by simp [running, State.reset, State.launch]⟩, rfl⟩

/-! ### From reset -/

theorem test_reset_step : faultOf (step State.reset) = some (.pcOutOfRange 0) := by decide

theorem test_withFetchWord :
    pcOf (step (State.reset.withFetchWord 64 0xffffffff00000304)) = some 1 ∧
      pcOf (step (State.reset.withFetchWord 128 0xcafef00d00000000deadbeef00000218)) = some 2 ∧
      regOf (step (State.reset.withFetchWord 128 0xcafef00d00000000deadbeef00000218)) 2 = some 0xcafef00ddeadbeef ∧
      faultOf (step (State.reset.withFetchWord 64 0)) = some (.illegalInstruction 0) := by
  decide

end Sys2Proof.Tests
end

