-- ==== Sys2Proof/Proofs/Groups.lean ====
section
/-! SUPPORT. The closure of the declared groups under "includes" (00_scope.md R2, R3, R9). -/

namespace Sys2Proof.Machine

@[simp] theorem supports_base32 (gs : Groups) : supports gs .base32 = true := rfl

theorem supports_atomic32_iff (gs : Groups) :
    supports gs .atomic32 = true ↔ gs.atomic32 = true ∨ gs.atomic64 = true := Bool.or_eq_true_iff

theorem supports_divmul32_iff (gs : Groups) :
    supports gs .divmul32 = true ↔ gs.divmul32 = true ∨ gs.divmul64 = true := Bool.or_eq_true_iff

/-- Settles O49. Only the two 32-bit groups that a 64-bit group includes differ from what is declared; the other
optional groups are included by none, so that for them supported means declared by definition. -/
theorem groupClosure : Obligations.GroupClosure := fun gs =>
  ⟨supports_base32 gs, Iff.rfl, supports_atomic32_iff gs, Iff.rfl, supports_divmul32_iff gs, Iff.rfl, Iff.rfl⟩

end Sys2Proof.Machine
end

/-! SUPPORT. Twenty shared operations and two stops give the 171 instructions their meaning: which one is behind an instruction,
what the tables of 10_state.md R33 and R41 say of the instructions of each, and from that, once, what an instruction that answers a
next state has done and what is checked before an instruction does anything. -/

namespace Sys2Proof.Machine

/-! ### The operation behind an instruction -/

/-- The instruction acts on 32 bits: it is of class ALU and no byte swap, or a 32-bit atomic (10_state.md R32). -/
def narrowResult (i : Instr) : Bool :=
  decide ((encodeFields i).1.opcode.toNat % 8 = 4 ∧ (encodeFields i).1.opcode ≠ 0xd4 ∧ (encodeFields i).1.opcode ≠ 0xdc) ||
    decide ((encodeFields i).1.opcode = 0xc3)

theorem narrowResult_iff {i : Instr} :
    narrowResult i = true ↔
      ((encodeFields i).1.opcode.toNat % 8 = 4 ∧ (encodeFields i).1.opcode ≠ 0xd4 ∧ (encodeFields i).1.opcode ≠ 0xdc) ∨
        (encodeFields i).1.opcode = 0xc3 := by
  rw [narrowResult, Bool.or_eq_true_iff, decide_eq_true_iff, decide_eq_true_iff]

/-- What the tables say of an instruction: its group, the registers that it names, reads and writes, its slots, and whether it acts
on 32 bits. For a named instruction each is found by looking it up. -/
structure Facts (i : Instr) (g : ConfGroup) (named reads writes : List Reg) (slots : Int) (narrow : Bool) : Prop where
  group : groupOf i = g := by rfl
  regs : i.regs = named := by rfl
  reads : readsOf i = reads := by rfl
  writes : writesOf i = writes := by rfl
  slots : slotsOf i = slots := by rfl
  narrow : narrowResult i = narrow := by simp [narrowResult, encodeFields]

/-- `Meaning i s r`: in state `s` one of the shared operations, with operands that agree with what the tables say of `i`, answers
`r`; or `i` is IMM_NEXT or of the packet group, and `r` is its stop. -/
inductive Meaning (i : Instr) (s : State) : Result → Prop
  | alu32 {g f dst b} (h : Facts i g (dst :: b.regs) (dst :: b.regs) [dst] 1 true) : Meaning i s (alu32 g f dst b s)
  | neg32 {g dst} (h : Facts i g [dst] [dst] [dst] 1 true) : Meaning i s (neg32 g dst s)
  | mov32 {g dst b} (h : Facts i g (dst :: b.regs) b.regs [dst] 1 true) : Meaning i s (mov32 g dst b s)
  | movsx32 {g k dst src} (h : Facts i g [dst, src] [src] [dst] 1 true) : Meaning i s (movsx32 g k dst src s)
  | alu64 {g f dst b} (h : Facts i g (dst :: b.regs) (dst :: b.regs) [dst] 1 false) : Meaning i s (alu64 g f dst b s)
  | neg64 {g dst} (h : Facts i g [dst] [dst] [dst] 1 false) : Meaning i s (neg64 g dst s)
  | mov64 {g dst b} (h : Facts i g (dst :: b.regs) b.regs [dst] 1 false) : Meaning i s (mov64 g dst b s)
  | movsx64 {g k dst src} (h : Facts i g [dst, src] [src] [dst] 1 false) : Meaning i s (movsx64 g k dst src s)
  | swapRegister {g f dst} (h : Facts i g [dst] [dst] [dst] 1 false) : Meaning i s (swapRegister g f dst s)
  | jumpAlways {g d} (h : Facts i g [] [] [] 1 false) (hd : displacement i = some d) : Meaning i s (jumpAlways g d s)
  | branch64 {g cond dst b off} (h : Facts i g (dst :: b.regs) (dst :: b.regs) [] 1 false)
      (hd : displacement i = some (offDisplacement off)) : Meaning i s (branch64 g cond dst b off s)
  | branch32 {g cond dst b off} (h : Facts i g (dst :: b.regs) (dst :: b.regs) [] 1 false)
      (hd : displacement i = some (offDisplacement off)) : Meaning i s (branch32 g cond dst b off s)
  | helperCall {g ids imm} (h : Facts i g [] [] [0, 1, 2, 3, 4, 5, 6, 7, 8, 9, 10] 1 false) (hi : isHelperCall i = true) :
      Meaning i s (helperCall g ids imm s)
  | localCall {g imm} (h : Facts i g [] [] [6, 7, 8, 9, 10] 1 false) (hi : i = .callKJmpLocal imm) :
      Meaning i s (localCall g (immDisplacement imm) s)
  | exitCall {g} (h : Facts i g [] [] [1, 2, 3, 4, 5, 6, 7, 8, 9, 10] 1 false) (hi : i = .exitKJmp) :
      Meaning i s (exitCall g s)
  | loadInto {g size ext dst src off} (h : Facts i g [dst, src] [src] [dst] 1 false) :
      Meaning i s (loadInto g size ext dst src off s)
  | storeFrom {g size dst off b} (h : Facts i g (dst :: b.regs) (dst :: b.regs) [] 1 false) :
      Meaning i s (storeFrom g size dst off b s)
  | atomicUpdate {g size f fetch dst src off}
      (h : Facts i g [dst, src] [dst, src] (if fetch then [src] else []) 1 (decide (size = .w))) :
      Meaning i s (atomicUpdate g size f fetch dst src off s)
  | atomicCompare {g size dst src off} (h : Facts i g [dst, src] [dst, src, 0] [0] 1 (decide (size = .w))) :
      Meaning i s (atomicCompare g size dst src off s)
  | setWide {g dst v} (h : Facts i g [dst] [] [dst] 2 false) : Meaning i s (setWide g dst v s)
  | secondSlot (next : Imm) (hi : i = .immNext next) : Meaning i s (.fault (.illegalInstruction s.pc))
  | packet (hg : groupOf i = .packet) (hr : readsOf i = []) : Meaning i s (.refused .packet)

/-- What `exec` answers is such a meaning: one case for each operation, over the instructions that it serves. -/
theorem exec_meaning (i : Instr) (s : State) : Meaning i s (exec i s) := by
  cases i with
  | addKAlu | addXAlu | subKAlu | subXAlu | mulKAlu | mulXAlu | divKAlu | divXAlu | sdivKAlu | sdivXAlu | orKAlu | orXAlu
  | andKAlu | andXAlu | lshKAlu | lshXAlu | rshKAlu | rshXAlu | modKAlu | modXAlu | smodKAlu | smodXAlu | xorKAlu | xorXAlu
  | arshKAlu | arshXAlu => exact .alu32 {}
  | negKAlu => exact .neg32 {}
  | movKAlu | movXAlu => exact .mov32 {}
  | movsx8XAlu | movsx16XAlu => exact .movsx32 {}
  | addKAlu64 | addXAlu64 | subKAlu64 | subXAlu64 | mulKAlu64 | mulXAlu64 | divKAlu64 | divXAlu64 | sdivKAlu64 | sdivXAlu64
  | orKAlu64 | orXAlu64 | andKAlu64 | andXAlu64 | lshKAlu64 | lshXAlu64 | rshKAlu64 | rshXAlu64 | modKAlu64 | modXAlu64
  | smodKAlu64 | smodXAlu64 | xorKAlu64 | xorXAlu64 | arshKAlu64 | arshXAlu64 => exact .alu64 {}
  | negKAlu64 => exact .neg64 {}
  | movKAlu64 | movXAlu64 => exact .mov64 {}
  | movsx8XAlu64 | movsx16XAlu64 | movsx32XAlu64 => exact .movsx64 {}
  | endLeAlu16 | endLeAlu32 | endLeAlu64 | endBeAlu16 | endBeAlu32 | endBeAlu64 | endToAlu6416 | endToAlu6432
  | endToAlu6464 => exact .swapRegister {}
  | jaKJmp off => exact .jumpAlways (i := .jaKJmp off) {} rfl
  | jaKJmp32 imm => exact .jumpAlways (i := .jaKJmp32 imm) {} rfl
  | jeqKJmp | jeqXJmp | jgtKJmp | jgtXJmp | jgeKJmp | jgeXJmp | jsetKJmp | jsetXJmp | jneKJmp | jneXJmp | jsgtKJmp | jsgtXJmp
  | jsgeKJmp | jsgeXJmp | jltKJmp | jltXJmp | jleKJmp | jleXJmp | jsltKJmp | jsltXJmp | jsleKJmp | jsleXJmp =>
    exact .branch64 {} rfl
  | jeqKJmp32 | jeqXJmp32 | jgtKJmp32 | jgtXJmp32 | jgeKJmp32 | jgeXJmp32 | jsetKJmp32 | jsetXJmp32 | jneKJmp32 | jneXJmp32
  | jsgtKJmp32 | jsgtXJmp32 | jsgeKJmp32 | jsgeXJmp32 | jltKJmp32 | jltXJmp32 | jleKJmp32 | jleXJmp32 | jsltKJmp32
  | jsltXJmp32 | jsleKJmp32 | jsleXJmp32 => exact .branch32 {} rfl
  | callKJmpHelper | callKJmpBtf => exact .helperCall {} rfl
  | callKJmpLocal => exact .localCall {} rfl
  | exitKJmp => exact .exitCall {} rfl
  | memBLdx | memHLdx | memWLdx | memDwLdx | memsxBLdx | memsxHLdx | memsxWLdx => exact .loadInto {}
  | memBSt | memHSt | memWSt | memDwSt | memBStx | memHStx | memWStx | memDwStx => exact .storeFrom {}
  | atomicWStxAdd | atomicWStxAddFetch | atomicWStxOr | atomicWStxOrFetch | atomicWStxAnd | atomicWStxAndFetch | atomicWStxXor
  | atomicWStxXorFetch | atomicWStxXchg | atomicDwStxAdd | atomicDwStxAddFetch | atomicDwStxOr | atomicDwStxOrFetch
  | atomicDwStxAnd | atomicDwStxAndFetch | atomicDwStxXor | atomicDwStxXorFetch | atomicDwStxXchg => exact .atomicUpdate {}
  | atomicWStxCmpxchg | atomicDwStxCmpxchg => exact .atomicCompare {}
  | immDwLdImm64 | immDwLdMapfd | immDwLdMapfdVal | immDwLdVaraddr | immDwLdCodeaddr | immDwLdMapidx | immDwLdMapidxVal =>
    exact .setWide {}
  | immNext => exact .secondSlot _ rfl
  | absWLd | absHLd | absBLd | indWLd | indHLd | indBLd => exact .packet rfl rfl

/-! ### What an instruction that answers a next state has done -/

/-- `Effect i s t`: the state `t` is `s` after one of the nine kinds of change that an instruction makes, of a kind that agrees with
what the tables say of `i`. -/
inductive Effect (i : Instr) (s : State) : State → Prop
  | register {dst v} (hd : dst.Valid) (hw : writesOf i = [dst]) (hs : slotsOf i = 1)
      (hn : narrowResult i = true → v.toNat < 2 ^ 32) : Effect i s (s.finish dst v)
  | wideRegister {dst v} (hw : writesOf i = [dst]) (hs : slotsOf i = 2) (hn : narrowResult i = false) :
      Effect i s (s.writeReg dst v).advanceWide
  | advance (hw : writesOf i = []) (hs : slotsOf i = 1) : Effect i s s.advance
  | jump {d} (hw : writesOf i = []) (hd : displacement i = some d) : Effect i s (s.jump d)
  | store {a size v} (hw : writesOf i = []) (hs : slotsOf i = 1) : Effect i s (storeValue s a size v).advance
  | exchange {a size v dst old} (hd : dst.Valid) (hw : writesOf i = [dst]) (hs : slotsOf i = 1)
      (hn : narrowResult i = true → old.toNat < 2 ^ 32) : Effect i s ((storeValue s a size v).finish dst old)
  | helperCall {ids imm u} (hi : isHelperCall i = true) (hw : writesOf i = [0, 1, 2, 3, 4, 5, 6, 7, 8, 9, 10])
      (hs : slotsOf i = 1) (hn : narrowResult i = false) (hu : callHelper s ids imm = .ok u) : Effect i s u.advance
  | localCall {imm t} (hi : i = .callKJmpLocal imm) (ht : callLocal s (immDisplacement imm) = .ok t) : Effect i s t
  | exit {t} (hi : i = .exitKJmp) (ht : returnOrEnd s = .ok t) : Effect i s t

theorem zext32_toNat_lt (v : Word32) : (zext32 v).toNat < 2 ^ 32 := by
  rw [zext32, BitVec.toNat_setWidth]
  omega

/-- The value of `n` bytes is below 256^n (20_memory.md R61). -/
theorem ofLeBytes_toNat_lt (bs : List Byte) : (ofLeBytes bs).toNat < 2 ^ (8 * bs.length) := by
  induction bs with
  | nil => simp [ofLeBytes]
  | cons b bs ih =>
    have hb : b.toNat < 2 ^ (8 * (bs.length + 1)) :=
      Nat.lt_of_lt_of_le b.isLt (Nat.pow_le_pow_right (by omega) (by omega))
    have hshift : (ofLeBytes bs <<< 8).toNat < 2 ^ (8 * (bs.length + 1)) := by
      rw [BitVec.toNat_shiftLeft, Nat.shiftLeft_eq, show 8 * (bs.length + 1) = 8 * bs.length + 8 by omega, Nat.pow_add]
      exact Nat.lt_of_le_of_lt (Nat.mod_le _ _) (Nat.mul_lt_mul_of_pos_right ih (by omega))
    rw [ofLeBytes, BitVec.toNat_or, List.length_cons, BitVec.toNat_setWidth]
    exact Nat.or_lt_two_pow (Nat.lt_of_le_of_lt (Nat.mod_le _ _) hb) hshift

/-- A 32-bit access reads a value whose upper half is zero (20_memory.md R61, 46_atomic.md R392). -/
theorem loadValue_w_toNat_lt (s : State) (addr : Word) : (loadValue s addr .w).toNat < 2 ^ 32 := by
  unfold loadValue assemble
  split
  · exact Nat.lt_of_lt_of_eq (ofLeBytes_toNat_lt _) (by simp [Size.bytes])
  · exact Nat.lt_of_lt_of_eq (ofLeBytes_toNat_lt _) (by simp [Size.bytes])

section
variable {i : Instr} {s t : State} {g : ConfGroup} {named reads : List Reg} {dst : Reg} {v : Word} {narrow : Bool}

/-- An instruction that passed its checks and writes one register. -/
theorem Facts.effect_register (h : Facts i g named reads [dst] 1 narrow) (hp : permit s g named = .ok ()) (hd : dst ∈ named)
    (hv : narrow = true → v.toNat < 2 ^ 32) : Effect i s (s.finish dst v) :=
  .register ((permit_eq_ok.mp hp).1 dst hd) h.writes h.slots fun hn => hv (h.narrow ▸ hn)

/-- A conditional jump, taken or not. -/
theorem Facts.effect_branch {d : Int} {c : Bool} (h : Facts i g named reads [] 1 narrow) (hd : displacement i = some d) :
    Effect i s (if c then s.jump d else s.advance) := by
  cases c
  · exact .advance h.writes h.slots
  · exact .jump h.writes hd

/-- What an atomic gives back is 32 bits wide where the atomic is. -/
theorem loadValue_narrow {size : Size} {addr : Word} (h : decide (size = .w) = true) :
    (loadValue s addr size).toNat < 2 ^ 32 := by
  obtain rfl := of_decide_eq_true h
  exact loadValue_w_toNat_lt s addr

/-- A meaning that answers a next state has one of the nine effects. -/
theorem Meaning.effect {r : Result} (h : Meaning i s r) (hr : r = .next t) : Effect i s t := by
  cases h with
  | alu32 h =>
    obtain ⟨hp, _, _, _, _, rfl⟩ := alu32_eq_next.mp hr
    exact h.effect_register hp List.mem_cons_self fun _ => zext32_toNat_lt _
  | neg32 h =>
    obtain ⟨hp, _, _, rfl⟩ := neg32_eq_next.mp hr
    exact h.effect_register hp List.mem_cons_self fun _ => zext32_toNat_lt _
  | mov32 h =>
    obtain ⟨hp, _, _, rfl⟩ := mov32_eq_next.mp hr
    exact h.effect_register hp List.mem_cons_self fun _ => zext32_toNat_lt _
  | movsx32 h =>
    obtain ⟨hp, _, _, rfl⟩ := movsx32_eq_next.mp hr
    exact h.effect_register hp List.mem_cons_self fun _ => zext32_toNat_lt _
  | alu64 h =>
    obtain ⟨hp, _, _, _, _, rfl⟩ := alu64_eq_next.mp hr
    exact h.effect_register hp List.mem_cons_self nofun
  | neg64 h =>
    obtain ⟨hp, _, _, rfl⟩ := neg64_eq_next.mp hr
    exact h.effect_register hp List.mem_cons_self nofun
  | mov64 h =>
    obtain ⟨hp, _, _, rfl⟩ := mov64_eq_next.mp hr
    exact h.effect_register hp List.mem_cons_self nofun
  | movsx64 h =>
    obtain ⟨hp, _, _, rfl⟩ := movsx64_eq_next.mp hr
    exact h.effect_register hp List.mem_cons_self nofun
  | swapRegister h =>
    obtain ⟨hp, _, _, rfl⟩ := swapRegister_eq_next.mp hr
    exact h.effect_register hp List.mem_cons_self nofun
  | jumpAlways h hd =>
    obtain ⟨_, rfl⟩ := jumpAlways_eq_next.mp hr
    exact .jump h.writes hd
  | branch64 h hd =>
    obtain ⟨_, _, _, _, _, rfl⟩ := branch64_eq_next.mp hr
    exact h.effect_branch hd
  | branch32 h hd =>
    obtain ⟨_, _, _, _, _, rfl⟩ := branch32_eq_next.mp hr
    exact h.effect_branch hd
  | helperCall h hi =>
    obtain ⟨_, _, hu, rfl⟩ := helperCall_eq_next.mp hr
    exact .helperCall hi h.writes h.slots h.narrow hu
  | localCall h hi => exact .localCall hi (localCall_eq_next.mp hr).2
  | exitCall h hi => exact .exit hi (exitCall_eq_next.mp hr).2
  | loadInto h =>
    obtain ⟨hp, _, _, _, rfl⟩ := loadInto_eq_next.mp hr
    exact h.effect_register hp List.mem_cons_self nofun
  | storeFrom h =>
    obtain ⟨_, _, _, _, _, _, rfl⟩ := storeFrom_eq_next.mp hr
    exact .store h.writes h.slots
  | @atomicUpdate _ _ _ fetch _ src _ h =>
    obtain ⟨hp, _, _, _, _, _, rfl⟩ := atomicUpdate_eq_next.mp hr
    cases fetch
    · exact .store h.writes h.slots
    · exact .exchange ((permit_eq_ok.mp hp).1 src (by simp)) h.writes h.slots fun hn => loadValue_narrow (h.narrow ▸ hn)
  | atomicCompare h =>
    obtain ⟨_, _, _, _, _, _, _, _, rfl⟩ := atomicCompare_eq_next.mp hr
    exact .exchange (by decide) h.writes h.slots fun hn => loadValue_narrow (h.narrow ▸ hn)
  | setWide h =>
    obtain ⟨_, _, _, rfl⟩ := setWide_eq_next.mp hr
    exact .wideRegister h.writes h.slots h.narrow
  | secondSlot next hi => cases hr
  | packet hg hn => cases hr

end

/-- Every instruction that answers a next state has one of the nine effects. -/
theorem exec_effect {i : Instr} {s t : State} (h : exec i s = .next t) : Effect i s t := (exec_meaning i s).effect h

/-! ### The frames of registers, calls and helpers -/

/-- There is no register above 10, so none holds a value (10_state.md R34). -/
theorem State.reg_of_not_valid (s : State) {r : Reg} (h : ¬ r.Valid) : s.reg r = none :=
  dif_neg fun hlt => h (Nat.le_of_lt_succ hlt)

/-- Replacing one register leaves the others as they are, whatever registers they are replaced in. -/
theorem reg_setRegs_putReg_of_ne (s : State) (regs : Vector (Option Word) 11) {r q : Reg} (v : Option Word) (h : q ≠ r) :
    (s.setRegs (putReg regs r v)).reg q = (s.setRegs regs).reg q :=
  (reg_setRegs_putReg (s.setRegs regs) r q v).trans (if_neg fun hq => h hq.1)

theorem State.setRegs_self (s : State) : s.setRegs s.regs = s := rfl

/-- A callee is given new contents of r6 to r10 at most (44_call_exit.md R345). -/
theorem State.reg_enterCallee (s : State) {r : Reg} (h : r ∉ [6, 7, 8, 9, 10]) : s.enterCallee.reg r = s.reg r := by
  simp only [List.mem_cons, List.not_mem_nil, or_false, not_or] at h
  unfold State.enterCallee
  split
  · rfl
  · simp only [State.reg_setFreeIdx, State.reg_setStackTops, reg_setRegs_putReg_of_ne, ne_eq, h, not_false_eq_true,
      State.setRegs_self]

/-- A return replaces r1 to r10 at most (44_call_exit.md R343, R345). -/
theorem reg_setRegs_restore (s : State) (f : Frame) {r : Reg} (h : r ∉ [1, 2, 3, 4, 5, 6, 7, 8, 9, 10]) :
    (s.setRegs (f.restore s.regs)).reg r = s.reg r := by
  simp only [List.mem_cons, List.not_mem_nil, or_false, not_or] at h
  cases f with
  | isaOnly ret => rfl
  | linux ret r6 r7 r8 r9 r10 =>
    simp only [Frame.restore, dropArguments, reg_setRegs_putReg_of_ne, ne_eq, h, not_false_eq_true, State.setRegs_self]

/-- What a program-local call keeps (44_call_exit.md R341): registers outside r6 to r10, and all but the calls and their stacks. -/
theorem callLocal_keeps {s t : State} {d : Int} (h : callLocal s d = .ok t) :
    (∀ r, r ∉ [6, 7, 8, 9, 10] → t.reg r = s.reg r) ∧ t.pc = s.pc + 1 + d ∧ t.mem = s.mem ∧ t.status = s.status ∧
      t.program = s.program ∧ t.platform = s.platform ∧ t.interference = s.interference ∧ t.helperActs = s.helperActs := by
  obtain ⟨_, rfl⟩ := callLocal_eq_ok.mp h
  exact ⟨fun r hr => s.reg_enterCallee hr, by simp⟩

/-- What EXIT keeps (44_call_exit.md R343): r0, memory and the inputs of the run. -/
theorem returnOrEnd_keeps {s t : State} (h : returnOrEnd s = .ok t) :
    (∀ r, r ∉ [1, 2, 3, 4, 5, 6, 7, 8, 9, 10] → t.reg r = s.reg r) ∧ t.mem = s.mem ∧
      t.program = s.program ∧ t.platform = s.platform ∧ t.interference = s.interference ∧ t.helperActs = s.helperActs := by
  obtain ⟨-, hend⟩ | ⟨f, rest, -, rfl⟩ := returnOrEnd_eq_ok.mp h
  · obtain ⟨-, rfl⟩ | ⟨-, _, -, rfl⟩ := endRun_eq_ok.mp hend
    · simp
    · simp
  · exact ⟨fun r hr => reg_setRegs_restore s f hr, by simp⟩

/-- Where EXIT goes on (44_call_exit.md R343, 10_state.md R54): nowhere at the end of the run, else at the newest return slot. -/
theorem returnOrEnd_pc {s t : State} (h : returnOrEnd s = .ok t) :
    (s.calls = [] ∧ t.pc = s.pc) ∨ ∃ f rest, s.calls = f :: rest ∧ t.pc = f.ret := by
  obtain ⟨hc, hend⟩ | ⟨f, rest, hc, rfl⟩ := returnOrEnd_eq_ok.mp h
  · obtain ⟨-, rfl⟩ | ⟨-, _, -, rfl⟩ := endRun_eq_ok.mp hend
    · exact .inl ⟨hc, rfl⟩
    · exact .inl ⟨hc, rfl⟩
  · exact .inr ⟨f, rest, hc, rfl⟩

/-- What a helper keeps (44_call_exit.md R344): the calls and their stacks, `pc`, and the inputs of the run but for its own act. -/
theorem callHelper_keeps {s t : State} {ids : IdSet} {imm : Imm} (h : callHelper s ids imm = .ok t) :
    t.pc = s.pc ∧ t.calls = s.calls ∧ t.stackTops = s.stackTops ∧ t.status = s.status ∧ t.program = s.program ∧
      t.platform = s.platform ∧ t.interference = s.interference := by
  obtain ⟨-, ⟨_, _, _, _, -, rfl⟩ | ⟨-, rfl⟩⟩ := callHelper_eq_ok.mp h
  · simp
  · simp

/-- A helper keeps the canonical form of memory, whatever it does. -/
theorem callHelper_wf {s t : State} {ids : IdSet} {imm : Imm} (h : callHelper s ids imm = .ok t) (hm : Memory.wf s.mem) :
    Memory.wf t.mem := by
  obtain ⟨-, ⟨_, _, _, _, -, rfl⟩ | ⟨-, rfl⟩⟩ := callHelper_eq_ok.mp h
  · exact State.helperReturn_wf _ _ _ _ hm
  · exact State.helperReturn_wf _ _ _ _ hm

/-! ### What every effect keeps -/

/-- An instruction keeps the canonical form of memory (10_state.md R48). -/
theorem Effect.mem_wf {i : Instr} {s t : State} (h : Effect i s t) (hm : Memory.wf s.mem) : Memory.wf t.mem := by
  cases h with
  | register | wideRegister | advance | jump => exact hm
  | store | exchange => exact Memory.store_wf _ _ _ hm
  | helperCall _ _ _ _ hu =>
    have hwf := callHelper_wf hu hm
    exact hwf
  | localCall _ ht =>
    obtain ⟨-, -, hmem, -⟩ := callLocal_keeps ht
    exact hmem ▸ hm
  | exit _ ht =>
    obtain ⟨-, hmem, -⟩ := returnOrEnd_keeps ht
    exact hmem ▸ hm

/-- Settles O55. A step is the environment's stores and then one effect, and each keeps the form; after the end of the run the state
does not change. -/
theorem stepKeepsMemoryCanonical : Obligations.StepKeepsMemoryCanonical := by
  intro s t hm hstep
  obtain ⟨-, rfl⟩ | ⟨-, i, -, hi⟩ := step_eq_next.mp hstep
  · exact hm
  · exact (exec_effect hi).mem_wf (s.interfere_wf hm)

/-- Settles O18. An effect that writes a register of a 32-bit instruction writes a zero-extended value; the others either write none
or are of an instruction that does not act on 32 bits. -/
theorem thirtyTwoBitResultsClearUpperHalf : Obligations.ThirtyTwoBitResultsClearUpperHalf := by
  intro i s t hi hop r hr
  have hnarrow : narrowResult i = true := narrowResult_iff.mpr hop
  cases exec_effect hi with
  | @register dst v hd hw _ hn =>
    obtain rfl := List.mem_singleton.mp (hw ▸ hr)
    exact ⟨v, by rw [State.reg_finish, if_pos ⟨rfl, Nat.lt_succ_of_le hd⟩], hn hnarrow⟩
  | @exchange _ _ _ dst old hd hw _ hn =>
    obtain rfl := List.mem_singleton.mp (hw ▸ hr)
    exact ⟨old, by rw [State.reg_finish, if_pos ⟨rfl, Nat.lt_succ_of_le hd⟩], hn hnarrow⟩
  | advance hw | jump hw | store hw => exact absurd (hw ▸ hr) List.not_mem_nil
  | wideRegister _ _ hn | helperCall _ _ _ hn => exact absurd (hn.symm.trans hnarrow) Bool.false_ne_true
  | localCall hc => subst hc; simp [narrowResult, encodeFields] at hnarrow
  | exit hc => subst hc; simp [narrowResult, encodeFields] at hnarrow

theorem not_valid_of_not_mem {r : Reg} (h : r ∉ ([0, 1, 2, 3, 4, 5, 6, 7, 8, 9, 10] : List Reg)) : ¬ r.Valid := by
  revert r
  decide

/-- Settles O51. A register that holds something else than before is the one that the effect writes, or one of those that a call
or a return replaces. -/
theorem registerFrame : Obligations.RegisterFrame := by
  intro i s t hi r hr
  cases exec_effect hi with
  | register _ hw | wideRegister hw | exchange _ hw =>
    rw [hw, List.mem_singleton] at hr
    exact (State.reg_writeReg ..).trans (if_neg fun h => hr h.1)
  | advance | jump | store => rfl
  | helperCall _ hw =>
    have hnone := not_valid_of_not_mem (hw ▸ hr)
    rw [State.reg_of_not_valid _ hnone, State.reg_of_not_valid _ hnone]
  | localCall hc ht =>
    subst hc
    exact (callLocal_keeps ht).1 r hr
  | exit hc ht =>
    subst hc
    exact (returnOrEnd_keeps ht).1 r hr

/-- Settles O53. The effects on registers, `pc` and memory touch nothing else; what a helper, a program-local call and EXIT touch
are the exceptions that the statement makes. -/
theorem restFrame : Obligations.RestFrame := by
  intro i s t hi
  cases exec_effect hi with
  | register | wideRegister | advance | jump | store | exchange => simp
  | helperCall hc _ _ _ hu =>
    obtain ⟨-, hcalls, htops, hstatus, hprogram, hplatform, hinput⟩ := callHelper_keeps hu
    exact ⟨hprogram, hplatform, hinput, fun _ => hstatus, fun _ _ => ⟨hcalls, htops⟩, fun h => by simp [hc] at h⟩
  | localCall hc ht =>
    obtain ⟨-, -, -, hstatus, hprogram, hplatform, hinput, hacts⟩ := callLocal_keeps ht
    exact ⟨hprogram, hplatform, hinput, fun _ => hstatus, fun _ h => absurd hc (h _), fun _ => hacts⟩
  | exit hc ht =>
    obtain ⟨-, -, hprogram, hplatform, hinput, hacts⟩ := returnOrEnd_keeps ht
    exact ⟨hprogram, hplatform, hinput, fun h => absurd hc h, fun h => absurd hc h, fun _ => hacts⟩

/-- Settles O54. Each effect moves `pc` past the instruction's slots, but for a jump, the program-local call and EXIT. -/
theorem pcMovesByText : Obligations.PcMovesByText := by
  intro i s t hi
  cases exec_effect hi with
  | register _ _ hs | wideRegister _ hs | advance _ hs | store _ hs | exchange _ _ hs => exact .inl (by rw [hs]; rfl)
  | jump _ hd => exact .inr (.inl ⟨_, hd, rfl⟩)
  | helperCall _ _ hs _ hu => exact .inl (by rw [hs, State.advance_pc, (callHelper_keeps hu).1])
  | localCall hc ht =>
    subst hc
    obtain ⟨-, hpc, -⟩ := callLocal_keeps ht
    exact .inr (.inl ⟨_, rfl, hpc⟩)
  | exit hc ht => exact .inr (.inr ⟨hc, returnOrEnd_pc ht⟩)

/-! ### What is checked before an instruction does anything -/

/-- A register number above 10 is found before the group is looked at (60_exceptions.md R462, R463). -/
theorem permit_of_not_valid {s : State} {g : ConfGroup} {rs : List Reg} (h : ¬ ∀ r ∈ rs, r.Valid) :
    permit s g rs = .error (.illegalInstruction s.pc) :=
  if_neg fun hall => h (by simpa only [List.all_eq_true, decide_eq_true_eq] using hall)

/-- With register numbers that exist, a group that is not supported is found (60_exceptions.md R466). -/
theorem permit_of_not_supported {s : State} {g : ConfGroup} {rs : List Reg} (hr : ∀ r ∈ rs, r.Valid)
    (hg : supports s.platform.groups g = false) : permit s g rs = .error (.unsupportedGroup g) := by
  have hall : (rs.all fun r => decide (r.toNat ≤ 10)) = true := by simpa only [List.all_eq_true, decide_eq_true_eq] using hr
  rw [permit, if_pos hall, if_neg (by simp [hg])]

/-- The computation faults at the first of the registers that holds no value, where one of them holds none (60_exceptions.md R467,
R474). -/
def FaultsAtFirst (s : State) : List Reg → Except Fault State → Prop
  | [], _ => True
  | r :: rs, x => (s.reg r = none → x = .error (.uninitRegister r)) ∧ (s.reg r ≠ none → FaultsAtFirst s rs x)

theorem FaultsAtFirst.eq_error {s : State} {x : Except Fault State} {before after : List Reg} {r : Reg}
    (h : FaultsAtFirst s (before ++ r :: after) x) (hb : ∀ q ∈ before, s.reg q ≠ none) (hr : s.reg r = none) :
    x = .error (.uninitRegister r) := by
  induction before with
  | nil => exact h.1 hr
  | cons q before ih =>
    obtain ⟨hq, hb⟩ := List.forall_mem_cons.mp hb
    exact ih (h.2 hq) hb

section
variable {s : State} {rs : List Reg}

theorem faultsAtFirst_readReg {r : Reg} {k : Word → Except Fault State} (h : ∀ v, FaultsAtFirst s rs (k v)) :
    FaultsAtFirst s (r :: rs) (readReg s r >>= k) := by
  refine ⟨fun hr => ?_, fun hr => ?_⟩
  · rw [readReg_eq_error.mpr ⟨hr, rfl⟩]
    rfl
  · obtain ⟨v, hv⟩ := Option.ne_none_iff_exists'.mp hr
    rw [readReg_eq_ok.mpr hv]
    exact h v

theorem faultsAtFirst_value64 {b : Source} {k : Word → Except Fault State} : FaultsAtFirst s b.regs (b.value64 s >>= k) := by
  cases b with
  | k imm => trivial
  | x src => exact faultsAtFirst_readReg fun _ => trivial

theorem faultsAtFirst_value32 {b : Source} {k : Word32 → Except Fault State} :
    FaultsAtFirst s b.regs (b.value32 s >>= k) := by
  cases b with
  | k imm => trivial
  | x src =>
    have hmap : (Source.x src).value32 s >>= k = readReg s src >>= fun v => k (low32 v) := by
      rw [Source.value32]
      cases readReg s src <;> rfl
    rw [hmap]
    exact faultsAtFirst_readReg fun _ => trivial

end

/-- A meaning that first checks the register numbers and the group of `i`, then reads the registers that `i` reads, in their order. -/
def Checked (i : Instr) (s : State) (r : Result) : Prop :=
  ∃ body, r = outcome (permit s (groupOf i) i.regs >>= fun _ => body) ∧ FaultsAtFirst s (readsOf i) body

theorem Facts.checked {i : Instr} {g : ConfGroup} {named reads writes : List Reg} {slots : Int} {narrow : Bool} {s : State}
    {body : Except Fault State} (h : Facts i g named reads writes slots narrow) (hb : FaultsAtFirst s reads body) :
    Checked i s (outcome (permit s g named >>= fun _ => body)) :=
  ⟨body, by rw [h.group, h.regs], h.reads ▸ hb⟩

/-- Every meaning makes its checks first, but for those of a second slot and of the packet group, which read no register. -/
theorem Meaning.checked {i : Instr} {s : State} {r : Result} (h : Meaning i s r) :
    Checked i s r ∨ ((∃ next, i = .immNext next) ∨ groupOf i = .packet) ∧ readsOf i = [] := by
  cases h with
  | alu32 h | branch32 h => exact .inl (h.checked (faultsAtFirst_readReg fun _ => faultsAtFirst_value32))
  | alu64 h | branch64 h | storeFrom h => exact .inl (h.checked (faultsAtFirst_readReg fun _ => faultsAtFirst_value64))
  | mov32 h => exact .inl (h.checked faultsAtFirst_value32)
  | mov64 h => exact .inl (h.checked faultsAtFirst_value64)
  | neg32 h | neg64 h | movsx32 h | movsx64 h | swapRegister h | loadInto h =>
    exact .inl (h.checked (faultsAtFirst_readReg fun _ => trivial))
  | atomicUpdate h => exact .inl (h.checked (faultsAtFirst_readReg fun _ => faultsAtFirst_readReg fun _ => trivial))
  | atomicCompare h =>
    exact .inl (h.checked (faultsAtFirst_readReg fun _ => faultsAtFirst_readReg fun _ => faultsAtFirst_readReg fun _ => trivial))
  | jumpAlways h | helperCall h | localCall h | exitCall h | setWide h => exact .inl (h.checked trivial)
  | secondSlot next hi => exact .inr ⟨.inl ⟨next, hi⟩, hi ▸ rfl⟩
  | packet hg hn => exact .inr ⟨.inr hg, hn⟩

/-- Settles O48. The one instruction outside the packet group that makes no checks, IMM_NEXT, names no register. -/
theorem checksBeforeExecution : Obligations.ChecksBeforeExecution := by
  intro i s hp
  obtain ⟨body, hexec, -⟩ | ⟨⟨next, rfl⟩ | hg, -⟩ := (exec_meaning i s).checked
  · rw [hexec]
    refine ⟨fun hwf => ?_, fun hwf _ hg => ?_⟩
    · rw [permit_of_not_valid hwf]
      rfl
    · rw [permit_of_not_supported hwf hg]
      rfl
  · exact ⟨fun _ => rfl, fun _ h => absurd rfl (h next)⟩
  · exact absurd hg hp

/-- Settles O50. The checks pass, and the registers are read in the order in which their absence is reported. -/
theorem uninitRegisterFaults : Obligations.UninitRegisterFaults := by
  intro i s r before after hwf hg hreads hb hr
  obtain ⟨body, hexec, hbody⟩ | ⟨-, hnone⟩ := (exec_meaning i s).checked
  · have herror : body = .error (.uninitRegister r) := (hreads ▸ hbody).eq_error hb hr
    rw [hexec, permit_of hwf hg, herror]
    rfl
  · simp [hnone] at hreads

/-! ### The start and the end of a run -/

/-- Settles O9. -/
theorem endedRunStays : Obligations.EndedRunStays := fun _ r h => step_eq_next.mpr (.inl ⟨⟨r, h⟩, rfl⟩)

/-- No call is active after reset (10_state.md R52). -/
theorem State.reset_callsLegal : CallsLegal State.reset := ⟨nofun, fun _ _ => Nat.zero_le _⟩

/-- One stack is in use after reset, so no two meet (log 29). -/
theorem State.reset_stacksApart : StacksApart State.reset := List.pairwise_singleton _ _

/-- Settles O57. -/
theorem resetMeetsInvariants : Obligations.ResetMeetsInvariants :=
  ⟨State.reset_mem_wf, State.reset_callsLegal, State.reset_stacksApart⟩

/-- Settles O58. Each field of a start state is by definition what is given for it; the state after reset is the start state of the
reset platform. -/
theorem launchState : Obligations.LaunchState :=
  ⟨fun _ _ _ _ _ _ => ⟨rfl, rfl, rfl, rfl, rfl, rfl, rfl, rfl, rfl, rfl⟩, rfl⟩

end Sys2Proof.Machine

/-! SUPPORT. Data memory (20_memory.md): when an access faults and with what, what a narrow read finds of a wide store, which bytes
an instruction can change, and which ones the environment can. -/

namespace Sys2Proof.Machine

/-! ### What the environment may replace -/

/-- The bytes that the environment may replace are those that shared regions alone hold (20_memory.md R72, log 25). -/
theorem environmentByte_iff {p : Platform} {a : Word} :
    environmentByte p a.toNat = true ↔ SharedByte p a ∧ ¬ PrivateByte p a := by
  have hspan (r : Region) :
      regionSpans r (BitVec.ofNat 64 a.toNat) 1 = true ↔ r.base.toNat ≤ a.toNat ∧ a.toNat < r.base.toNat + r.len := by
    simp [regionSpans]
  simp only [environmentByte, SharedByte, PrivateByte, a.isLt, decide_true, Bool.true_and, Bool.and_eq_true, List.any_eq_true,
    Bool.not_eq_true', ← Bool.not_eq_true, hspan]

/-- Where stores are listed, the first entry of them happens, on the bytes that the environment may replace. -/
theorem State.interfere_mem_of_cons {s : State} {cells : List Host.Cell} {rest : List (List Host.Cell)}
    (h : s.interference = cells :: rest) :
    s.interfere.mem = Memory.storeCells s.mem (cells.filter fun c => environmentByte s.platform c.1) := by
  rw [State.interfere, h]
  rfl

@[simp] theorem State.interfere_interference (s : State) : s.interfere.interference = s.interference.tail := by
  unfold State.interfere
  split
  case h_1 h => simp [h]
  case h_2 h => simp [h]

/-- But for memory, the environment does no more than use up the first entry of its stores (20_memory.md R72, log 12). -/
theorem State.onlyEnvironmentActed_interfere (s : State) : OnlyEnvironmentActed s s.interfere := by
  simp [OnlyEnvironmentActed, SameRegs]

/-- Settles O59. What the environment may replace is decided byte by byte, so that an input of one store shows that each such byte
can be given each value. -/
theorem environmentStores : Obligations.EnvironmentStores := by
  refine fun s => ⟨fun a ha => ?_, s.onlyEnvironmentActed_interfere, fun a b hshared hprivate => ?_⟩
  · refine byteAt_interfere s a (Bool.eq_false_iff.mpr fun henv => ?_)
    obtain ⟨hshared, hprivate⟩ := environmentByte_iff.mp henv
    exact ha.elim hprivate (absurd hshared)
  · have henv : environmentByte s.platform a.toNat = true := environmentByte_iff.mpr ⟨hshared, hprivate⟩
    rw [byteAt, State.interfere_mem_of_cons (State.setInterference_interference s _)]
    simp [henv, Memory.storeCells, Memory.get?_set_self]

/-! ### Reading back what was stored -/

/-- Byte 0 from an address is the one at it. -/
theorem add_ofNat_zero (addr : Word) : addr + BitVec.ofNat 64 0 = addr := BitVec.add_zero addr

/-- Byte `l + 1` from an address is byte `l` from the next one, also across the wrap of the address space. -/
theorem add_ofNat_succ (addr : Word) (l : Nat) : addr + BitVec.ofNat 64 (l + 1) = addr + 1 + BitVec.ofNat 64 l := by
  rw [Nat.add_comm l 1, BitVec.ofNat_add, ← BitVec.add_assoc]
  rfl

/-- Byte `j` of a value, counted from the least significant, is its digit `j` to the base 256. -/
theorem setWidth_extractLsb'_byte (v : Word) (j : Nat) :
    (v.extractLsb' (8 * j) 8).setWidth 64 = BitVec.ofNat 64 (v.toNat / 256 ^ j % 256) := by
  apply BitVec.eq_of_toNat_eq
  rw [BitVec.toNat_setWidth, BitVec.extractLsb'_toNat, Nat.shiftRight_eq_div_pow, Nat.pow_mul, BitVec.toNat_ofNat]

/-- The low `n` bytes of a value, zero-extended, are its remainder modulo 256^n. -/
theorem setWidth_setWidth_bytes (v : Word) (n : Nat) :
    (v.setWidth (8 * n)).setWidth 64 = BitVec.ofNat 64 (v.toNat % 256 ^ n) := by
  apply BitVec.eq_of_toNat_eq
  rw [BitVec.toNat_setWidth, BitVec.toNat_setWidth, BitVec.toNat_ofNat, Nat.pow_mul]

/-- One byte is always aligned, so that where it is admitted it is read (20_memory.md R61, R65). -/
theorem memRead_b {s : State} {a : Word} (h : Admitted s.platform a 1 .read) :
    memRead s a .b = .ok ((byteAt s a).setWidth 64) := by
  refine memRead_eq_ok.mpr ⟨checkAccess_iff.mpr (.inl ⟨Nat.mod_one _, h⟩), ?_⟩
  rw [loadValue]
  cases s.platform.endian <;> simp [assemble, Size.bytes, ofLeBytes]

/-- Reading one byte of what was stored, for every size, value and host (20_memory.md R61, R62). -/
theorem memRead_b_of_memWrite {s t : State} {a v : Word} {size : Size} {k : Nat} (h : memWrite s a size v = .ok t)
    (hk : k < size.bytes) (ha : Admitted s.platform (a + BitVec.ofNat 64 k) 1 .read) :
    memRead t (a + BitVec.ofNat 64 k) .b =
      .ok (BitVec.ofNat 64
        (v.toNat / 256 ^ (if s.platform.endian = .little then k else size.bytes - 1 - k) % 256)) := by
  obtain ⟨-, rfl⟩ := memWrite_eq_ok.mp h
  rw [memRead_b (s := storeValue s a size v) ha, byteAt_storeValue_inside s a size v k hk, setWidth_extractLsb'_byte]

/-- Settles O39. The example of R64 is the first and the last of the four bytes stored. -/
theorem narrowReadAfterWideStore : Obligations.NarrowReadAfterWideStore := by
  refine ⟨fun s t a h => ⟨fun ha => ?_, fun ha => ?_⟩, fun s t a v size k h hk ha => memRead_b_of_memWrite h hk ha⟩
  · rw [← add_ofNat_zero a] at ha ⊢
    rw [memRead_b_of_memWrite h (by decide) ha]
    cases s.platform.endian <;> rfl
  · rw [show (3 : Word) = BitVec.ofNat 64 3 from rfl, memRead_b_of_memWrite h (by decide) ha]
    cases s.platform.endian <;> rfl

/-- The zero-extending load of a size is the shared load (45_load_store.md R361 to R365). -/
theorem exec_load (size : Size) (dst src : Reg) (off : Off) (s : State) :
    exec (size.load dst src off) s = loadInto size.group size id dst src off s := by
  cases size <;> rfl

/-- The store of a register is the shared store (45_load_store.md R361, R370 to R373). -/
theorem exec_storeReg (size : Size) (dst src : Reg) (off : Off) (s : State) :
    exec (size.storeReg dst src off) s = storeFrom size.group size dst off (.x src) s := by
  cases size <;> rfl

/-- Settles O38. The store has made every check that the load makes, but for the destination and the permission to read, and what
it stored is read back. -/
theorem storeThenLoad : Obligations.StoreThenLoad := by
  intro size dst src d off s t base v hd hbase hv hstore hallowed
  rw [exec_storeReg] at hstore
  obtain ⟨hp, base', v', hbase', hv', -, rfl⟩ := storeFrom_eq_next.mp hstore
  obtain rfl : base' = base := Option.some.inj (hbase'.symm.trans hbase)
  obtain rfl : v' = v := Option.some.inj ((readReg_eq_ok.mp hv').symm.trans hv)
  obtain ⟨hregs, hgroup⟩ := permit_eq_ok.mp hp
  refine ⟨_, (exec_load ..).trans (loadInto_eq_next.mpr
    ⟨permit_of (by simpa [hd] using hregs dst List.mem_cons_self) hgroup, base', hbase, checkAccess_iff.mpr hallowed, rfl⟩), ?_⟩
  rw [State.reg_finish, if_pos ⟨rfl, Nat.lt_succ_of_le hd⟩, id, ← setWidth_setWidth_bytes, ← loadValue_storeValue s]
  rfl

/-! ### The access of an instruction -/

/-- `AccessMeaning i s r`: the instruction `i` answers `r` in state `s` by one of the four shared operations that make an access, which
is the access that the table gives for `i`; or the table gives none, and unless `i` calls a helper memory is left as it is. -/
inductive AccessMeaning (i : Instr) (s : State) : Result → Prop
  | load {g size ext dst src off} (ha : accessOf i = some (src, off, size, .read))
      (h : Facts i g [dst, src] [src] [dst] 1 false) : AccessMeaning i s (loadInto g size ext dst src off s)
  | store {g size dst off b} (ha : accessOf i = some (dst, off, size, .write))
      (h : Facts i g (dst :: b.regs) (dst :: b.regs) [] 1 false) : AccessMeaning i s (storeFrom g size dst off b s)
  | update {g size f fetch dst src off} (ha : accessOf i = some (dst, off, size, .atomic))
      (h : Facts i g [dst, src] [dst, src] (if fetch then [src] else []) 1 (decide (size = .w))) :
      AccessMeaning i s (atomicUpdate g size f fetch dst src off s)
  | compare {g size dst src off} (ha : accessOf i = some (dst, off, size, .atomic))
      (h : Facts i g [dst, src] [dst, src, 0] [0] 1 (decide (size = .w))) :
      AccessMeaning i s (atomicCompare g size dst src off s)
  | other {r} (ha : accessOf i = none) (hm : isHelperCall i = false → ∀ t, r = .next t → t.mem = s.mem) : AccessMeaning i s r

/-- A computation that, where it ends well, leaves memory as it is in `s`. -/
def LeavesMem (s : State) (x : Except Fault State) : Prop := ∀ t, x = .ok t → t.mem = s.mem

theorem leavesMem_bind {α : Type} {s : State} {x : Except Fault α} {f : α → Except Fault State}
    (h : ∀ a, LeavesMem s (f a)) : LeavesMem s (x >>= f) := by
  intro t ht
  obtain ⟨a, -, hf⟩ := bind_eq_ok.mp ht
  exact h a t hf

theorem leavesMem_pure {s u : State} (h : u.mem = s.mem) : LeavesMem s (pure u) := fun _ ht => pure_eq_ok.mp ht ▸ h

theorem mem_of_outcome {s : State} {x : Except Fault State} (h : LeavesMem s x) (t : State) (ht : outcome x = .next t) :
    t.mem = s.mem := h t (outcome_eq_next.mp ht)

theorem mem_of_jumpAlways {s : State} {d : Int} (t : State) (ht : jumpAlways .base32 d s = .next t) : t.mem = s.mem :=
  mem_of_outcome (leavesMem_bind fun _ => leavesMem_pure (State.jump_mem s d)) t ht

/-- What `exec` answers is such a meaning. The four operations and the calls apart, an instruction computes its operands and goes on in
the same state but for a register or `pc`. -/
theorem exec_accessMeaning (i : Instr) (s : State) : AccessMeaning i s (exec i s) := by
  cases i with
  | memBLdx | memHLdx | memWLdx | memDwLdx | memsxBLdx | memsxHLdx | memsxWLdx => exact .load rfl {}
  | memBSt | memHSt | memWSt | memDwSt | memBStx | memHStx | memWStx | memDwStx => exact .store rfl {}
  | atomicWStxAdd | atomicWStxAddFetch | atomicWStxOr | atomicWStxOrFetch | atomicWStxAnd | atomicWStxAndFetch | atomicWStxXor
  | atomicWStxXorFetch | atomicWStxXchg | atomicDwStxAdd | atomicDwStxAddFetch | atomicDwStxOr | atomicDwStxOrFetch
  | atomicDwStxAnd | atomicDwStxAndFetch | atomicDwStxXor | atomicDwStxXorFetch | atomicDwStxXchg => exact .update rfl {}
  | atomicWStxCmpxchg | atomicDwStxCmpxchg => exact .compare rfl {}
  | callKJmpHelper | callKJmpBtf => exact .other rfl fun hh => nomatch hh
  | callKJmpLocal =>
    refine .other rfl fun _ t ht => ?_
    obtain ⟨-, -, hmem, -⟩ := callLocal_keeps (localCall_eq_next.mp ht).2
    exact hmem
  | exitKJmp =>
    refine .other rfl fun _ t ht => ?_
    obtain ⟨-, hmem, -⟩ := returnOrEnd_keeps (exitCall_eq_next.mp ht).2
    exact hmem
  | jaKJmp off => exact .other rfl fun _ => mem_of_jumpAlways (d := offDisplacement off)
  | jaKJmp32 imm => exact .other rfl fun _ => mem_of_jumpAlways (d := immDisplacement imm)
  | immNext | absWLd | absHLd | absBLd | indWLd | indHLd | indBLd => exact .other rfl fun _ _ ht => nomatch ht
  | _ =>
    refine .other rfl fun _ => mem_of_outcome ?_
    repeat refine leavesMem_bind fun _ => ?_
    exact leavesMem_pure (by simp [apply_ite State.mem])

/-! ### What an instruction changes in memory -/

/-- Settles O52. Either the state that an instruction answers has the memory of the state before it, or it is the one after its access
has stored a value. -/
theorem memoryFrame : Obligations.MemoryFrame := by
  intro i s t hi hcall a ha
  have houtside {r off size kind base} {v : Word} (hacc : accessOf i = some (r, off, size, kind)) (hk : kind ≠ .read)
      (hbase : s.reg r = some base) : byteAt (storeValue s (effectiveAddress base off) size v) a = byteAt s a :=
    byteAt_storeValue_outside _ _ _ _ _ fun k hlt he => ha ⟨r, off, size, kind, base, k, hacc, hk, hbase, hlt, he.symm⟩
  generalize hr : exec i s = r at hi
  cases hr ▸ exec_accessMeaning i s with
  | load =>
    obtain ⟨_, _, _, _, rfl⟩ := loadInto_eq_next.mp hi
    rfl
  | store hacc =>
    obtain ⟨_, _, _, hbase, _, _, rfl⟩ := storeFrom_eq_next.mp hi
    exact houtside hacc nofun hbase
  | @update _ _ _ fetch _ _ _ hacc =>
    obtain ⟨_, _, _, hbase, _, _, rfl⟩ := atomicUpdate_eq_next.mp hi
    cases fetch <;> exact houtside hacc nofun hbase
  | compare hacc =>
    obtain ⟨_, _, _, _, hbase, _, _, _, rfl⟩ := atomicCompare_eq_next.mp hi
    exact houtside hacc nofun hbase
  | other _ hm => rw [byteAt, byteAt, hm hcall t hi]

/-! ### When an access faults -/

section
variable {p : Platform} {addr : Word} {n : Nat} {k : MemKind}

/-- A misaligned access that is not split (20_memory.md R65, R70). -/
theorem checkAccess_of_misaligned (h : addr.toNat % n ≠ 0) (hm : p.misaligned = .fault ∨ k = .atomic) :
    checkAccess p addr n k = .error (.memFault addr n .misaligned) := by
  have hsplit : ¬ (p.misaligned = .split ∧ k ≠ .atomic) := by
    rintro ⟨hs, hk⟩
    exact hm.elim (fun hf => nomatch hs.symm.trans hf) hk
  rw [checkAccess, if_neg h, if_neg hsplit]

/-- An aligned access that is not admitted (20_memory.md R66). -/
theorem checkAccess_of_not_admitted (h : addr.toNat % n = 0) (ha : ¬ Admitted p addr n k) :
    checkAccess p addr n k = .error (.memFault addr n k) := by
  rw [checkAccess, if_pos h, if_neg (mt admits_iff.mp ha)]

/-- A split access is checked as a whole against the wrap of the address space, and then byte by byte (20_memory.md R65, R79). -/
theorem checkAccess_of_split (h : addr.toNat % n ≠ 0) (hs : p.misaligned = .split) (hk : k ≠ .atomic) :
    checkAccess p addr n k =
      if addr.toNat + n ≤ 2 ^ 64 then checkBytes p addr k n else .error (.memFault addr n k) := by
  rw [checkAccess, if_neg h, if_pos ⟨hs, hk⟩]

/-- The first byte that is not admitted is the one that faults (20_memory.md R65). -/
theorem checkBytes_eq_error {j : Nat} (hj : j < n) (hbefore : ∀ l < j, Admitted p (addr + BitVec.ofNat 64 l) 1 k)
    (ha : ¬ Admitted p (addr + BitVec.ofNat 64 j) 1 k) :
    checkBytes p addr k n = .error (.memFault (addr + BitVec.ofNat 64 j) 1 k) := by
  induction n generalizing addr j with
  | zero => omega
  | succ n ih =>
    cases j with
    | zero =>
      rw [add_ofNat_zero] at ha ⊢
      rw [checkBytes, if_neg (mt admits_iff.mp ha)]
    | succ j =>
      have hfirst : Admitted p addr 1 k := add_ofNat_zero addr ▸ hbefore 0 (by omega)
      rw [add_ofNat_succ] at ha ⊢
      rw [checkBytes, if_pos (admits_iff.mpr hfirst)]
      exact ih (by omega) (fun l hl => add_ofNat_succ addr l ▸ hbefore (l + 1) (by omega)) ha

end

/-- A sequence whose first part ends well goes on with the rest. -/
theorem bind_of_ok {α β : Type} (a : α) (f : α → Except Fault β) : (Except.ok a >>= f) = f a := rfl

/-- A sequence whose first part faults faults with it. -/
theorem bind_of_error {α β : Type} (e : Fault) (f : α → Except Fault β) : (Except.error e >>= f) = .error e := rfl

/-- A register that holds a value is read (10_state.md R35). -/
theorem exists_readReg {s : State} {r : Reg} (h : s.reg r ≠ none) : ∃ v, readReg s r = .ok v := by
  obtain ⟨v, hv⟩ := Option.ne_none_iff_exists'.mp h
  exact ⟨v, readReg_eq_ok.mpr hv⟩

/-- Where its registers hold values, a source operand has one (60_exceptions.md R467). -/
theorem exists_value64 {s : State} {b : Source} (h : ∀ q ∈ b.regs, s.reg q ≠ none) : ∃ v, b.value64 s = .ok v := by
  cases b with
  | k imm => exact ⟨_, rfl⟩
  | x src => exact exists_readReg (h src List.mem_cons_self)

/-- A well-formed instruction of a supported group passes the checks that come before its meaning (60_exceptions.md R462). -/
theorem Facts.permit_of_wellFormed {i : Instr} {g : ConfGroup} {named reads writes : List Reg} {slots : Int} {narrow : Bool} {s : State}
    (h : Facts i g named reads writes slots narrow) (hwf : i.WellFormed)
    (hg : supports s.platform.groups (groupOf i) = true) : permit s g named = .ok () :=
  permit_of (h.regs ▸ hwf) (h.group ▸ hg)

/-- An instruction whose registers exist and hold values and whose group is supported faults as its access does (60_exceptions.md R462,
R474). -/
theorem exec_of_checkAccess_eq_error {i : Instr} {r : Reg} {off : Off} {size : Size} {k : MemKind} {s : State} {base : Word}
    {f : Fault} (hacc : accessOf i = some (r, off, size, k)) (hwf : i.WellFormed)
    (hg : supports s.platform.groups (groupOf i) = true) (hreads : ∀ q ∈ readsOf i, s.reg q ≠ none)
    (hbase : s.reg r = some base) (hf : checkAccess s.platform (effectiveAddress base off) size.bytes k = .error f) :
    exec i s = .fault f := by
  have hb : readReg s r = .ok base := readReg_eq_ok.mpr hbase
  generalize hr : exec i s = res
  cases hr ▸ exec_accessMeaning i s with
  | load ha h =>
    cases ha.symm.trans hacc
    simp only [loadInto, h.permit_of_wellFormed hwf hg, hb, memRead, hf, bind_of_ok, bind_of_error, outcome]
  | store ha h =>
    cases ha.symm.trans hacc
    rw [h.reads] at hreads
    obtain ⟨v, hv⟩ := exists_value64 fun q hq => hreads q (List.mem_cons_of_mem _ hq)
    simp only [storeFrom, h.permit_of_wellFormed hwf hg, hb, hv, memWrite, hf, bind_of_ok, bind_of_error, outcome]
  | @update _ _ _ _ _ src _ ha h =>
    cases ha.symm.trans hacc
    obtain ⟨v, hv⟩ := exists_readReg (hreads src (h.reads ▸ by simp))
    simp only [atomicUpdate, h.permit_of_wellFormed hwf hg, hb, hv, atomicRMW, hf, bind_of_ok, bind_of_error, outcome]
  | @compare _ _ _ src _ ha h =>
    cases ha.symm.trans hacc
    obtain ⟨v, hv⟩ := exists_readReg (hreads src (h.reads ▸ by simp))
    obtain ⟨c, hc⟩ := exists_readReg (hreads 0 (h.reads ▸ by simp))
    simp only [atomicCompare, h.permit_of_wellFormed hwf hg, hb, hv, hc, atomicRMW, hf, bind_of_ok, bind_of_error,
      outcome]
  | other ha => cases ha.symm.trans hacc

/-- Settles O37. The instruction faults as its access does, and each clause is one way in which the access does. -/
theorem memFaults : Obligations.MemFaults := by
  intro i r off size k s base hacc hwf hg hreads hbase addr n
  have hfault {f : Fault} (hf : checkAccess s.platform addr n k = .error f) : exec i s = .fault f :=
    exec_of_checkAccess_eq_error hacc hwf hg hreads hbase hf
  refine ⟨fun h hm => hfault (checkAccess_of_misaligned h hm), fun h ha => hfault (checkAccess_of_not_admitted h ha),
    fun h hs hk => ⟨fun hwrap => hfault ?_, fun j hj hfits hbefore ha => hfault ?_⟩⟩
  · rw [checkAccess_of_split h hs hk, if_neg (Nat.not_le.mpr hwrap)]
  · rw [checkAccess_of_split h hs hk, if_pos hfits, checkBytes_eq_error hj hbefore ha]

end Sys2Proof.Machine

/-! SUPPORT. The encoding (30_encoding.md R90 to R111). What the decoder answers at a slot is said once: an opcode byte outside the
tables is refused by name, and an instruction is answered only where the slots are those that the encoder writes for it. With the round
trip of `FieldRoundTrip`, of which this is the converse, every statement about the encoding follows. -/

namespace Sys2Proof.Machine

/-! ### What the decoder can answer -/

/-- What decoding the fields `f`, with those of the slot after them, can answer: the refusal of an opcode byte that names itself, a refusal
of a slot whose opcode byte is assigned, or a well-formed instruction whose fields are these. -/
inductive DecodeAnswer (f : Fields) (second : Option Fields) : Decoded → Prop
  | unassigned : DecodeAnswer f second (.error (.unassignedOpcode f.opcode))
  | refused {e} (ha : f.opcode ∈ assignedOpcodes) : DecodeAnswer f second (.error e)
  | row {i} (ha : f.opcode ∈ assignedOpcodes) (hwf : i.WellFormed) (hfirst : (encodeFields i).1 = f)
      (hsecond : (encodeFields i).2 = none ∨ (encodeFields i).2 = second) : DecodeAnswer f second (.ok i)

/-- What the tables say of an instruction: the fields that the encoder writes for it, and the registers that it names. For a named
instruction each is found by looking it up. -/
structure Writes (i : Instr) (f : Fields) (second : Option Fields) (named : List Reg) : Prop where
  fields : encodeFields i = (f, second) := by rfl
  regs : i.regs = named := by rfl

/-- The slot has the opcode byte `op`, and that byte is assigned. -/
structure AssignedAs (f : Fields) (op : Byte) : Prop where
  eq : f.opcode = op
  mem : op ∈ assignedOpcodes

section

variable {f : Fields} {second : Option Fields} {k : Decoded} {c : Bool} {e : DecodeError} {i : Instr} {op : Byte} {named : List Reg}

/-- A field whose value a match has found is the literal of that value. -/
theorem eq_ofNat_of_toNat {w n : Nat} {x : BitVec w} (h : x.toNat = n) : x = BitVec.ofNat w n :=
  (BitVec.toNat_eq_nat.mp h).2

theorem assignedAs {n : Nat} (h : f.opcode.toNat = n) (hn : assignedOpcodes.elem (BitVec.ofNat 8 n) = true := by rfl) :
    AssignedAs f (BitVec.ofNat 8 n) := ⟨eq_ofNat_of_toNat h, List.mem_of_elem_eq_true hn⟩

/-- The opcode byte of a second slot is no assigned byte of an instruction position (30_encoding.md R98, R110). -/
theorem zero_not_mem_assignedOpcodes : 0 ∉ assignedOpcodes := by decide

theorem AssignedAs.assigned (ha : AssignedAs f op) : f.opcode ∈ assignedOpcodes := ha.eq ▸ ha.mem

theorem fields_eq_mk_iff {dst src : Reg} {off : Off} {imm : Imm} :
    f = ⟨op, dst, src, off, imm⟩ ↔ f.opcode = op ∧ f.dst = dst ∧ f.src = src ∧ f.off = off ∧ f.imm = imm := by
  cases f
  simp

/-- A slot whose first 32 bits are zero is the second slot that the encoder writes for its `imm` (30_encoding.md R95). -/
theorem some_eq_secondSlot {g : Fields} (h : g.isNext = true) : some g = secondSlot g.imm := by
  simpa [secondSlot, fields_eq_mk_iff, Fields.isNext, and_assoc] using h

/-! ### The checks and the operand forms (30_encoding.md R97, R108, R111) -/

theorem DecodeAnswer.of_demand (ha : AssignedAs f op) (hk : c = true → DecodeAnswer f second k) : DecodeAnswer f second (demand c e k) := by
  cases c with
  | false => exact .refused ha.assigned
  | true => exact hk rfl

theorem DecodeAnswer.of_noOff (ha : AssignedAs f op) (hk : f.off = 0 → DecodeAnswer f second k) : DecodeAnswer f second (noOff f k) :=
  .of_demand ha fun h => hk (beq_iff_eq.mp h)

/-- The one place where an instruction is answered: its row says what the fields are, and the checks before it that the slot holds them. -/
theorem DecodeAnswer.of_writes {g : Fields} {t : Option Fields} (ha : AssignedAs f op) (hw : Writes i g t named)
    (ht : t = none ∨ t = second) (hv : ∀ r ∈ named, r.Valid) (hg : f = g) : DecodeAnswer f second (.ok i) :=
  .row ha.assigned (by rwa [Instr.WellFormed, hw.regs]) (by rw [hw.fields, hg]) (by rwa [hw.fields])

/-- A form that checks its unused fields, then its register numbers. -/
theorem DecodeAnswer.of_checks {unused exist : Bool} {g : Fields} (ha : AssignedAs f op) (hw : Writes i g none named)
    (hunused : unused = true → f = g) (hexist : exist = true → ∀ r ∈ named, r.Valid) :
    DecodeAnswer f second (demand unused .unusedField (demand exist .badRegister (.ok i))) :=
  .of_demand ha fun hu => .of_demand ha fun he => .of_writes ha hw (.inl rfl) (hexist he) (hunused hu)

/-- A form that names no register. -/
theorem DecodeAnswer.of_unused_fields {unused : Bool} {g : Fields} (ha : AssignedAs f op) (hw : Writes i g none [])
    (hunused : unused = true → f = g) : DecodeAnswer f second (demand unused .unusedField (.ok i)) :=
  .of_checks (exist := true) ha hw hunused fun _ => by simp

theorem DecodeAnswer.of_regImm {mk : Reg → Imm → Instr} {off : Off} (ha : AssignedAs f op) (hoff : f.off = off)
    (hw : Writes (mk f.dst f.imm) ⟨op, f.dst, 0, off, f.imm⟩ none [f.dst] := by exact {}) : DecodeAnswer f second (regImm f mk) :=
  .of_checks ha hw (by simp [fields_eq_mk_iff, ha.eq, hoff]) (by simp)

theorem DecodeAnswer.of_regReg {mk : Reg → Reg → Instr} {off : Off} (ha : AssignedAs f op) (hoff : f.off = off)
    (hw : Writes (mk f.dst f.src) ⟨op, f.dst, f.src, off, 0⟩ none [f.dst, f.src] := by exact {}) : DecodeAnswer f second (regReg f mk) :=
  .of_checks ha hw (by simp [fields_eq_mk_iff, ha.eq, hoff]) (by simp)

theorem DecodeAnswer.of_reg1 {mk : Reg → Instr} (ha : AssignedAs f op) (hoff : f.off = 0)
    (hw : Writes (mk f.dst) ⟨op, f.dst, 0, 0, 0⟩ none [f.dst] := by exact {}) : DecodeAnswer f second (reg1 f mk) :=
  .of_checks ha hw (by simp [fields_eq_mk_iff, ha.eq, hoff]) (by simp)

theorem DecodeAnswer.of_regWidth {mk : Reg → Instr} {imm : Imm} (ha : AssignedAs f op) (himm : f.imm = imm)
    (hw : Writes (mk f.dst) ⟨op, f.dst, 0, 0, imm⟩ none [f.dst] := by exact {}) : DecodeAnswer f second (regWidth f mk) :=
  .of_checks ha hw (by simp [fields_eq_mk_iff, ha.eq, himm]) (by simp)

theorem DecodeAnswer.of_branchImm {mk : Reg → Imm → Off → Instr} (ha : AssignedAs f op)
    (hw : Writes (mk f.dst f.imm f.off) ⟨op, f.dst, 0, f.off, f.imm⟩ none [f.dst] := by exact {}) :
    DecodeAnswer f second (branchImm f mk) :=
  .of_checks ha hw (by simp [fields_eq_mk_iff, ha.eq]) (by simp)

theorem DecodeAnswer.of_regRegOff {mk : Reg → Reg → Off → Instr} (ha : AssignedAs f op)
    (hw : Writes (mk f.dst f.src f.off) ⟨op, f.dst, f.src, f.off, 0⟩ none [f.dst, f.src] := by exact {}) :
    DecodeAnswer f second (regRegOff f mk) :=
  .of_checks ha hw (by simp [fields_eq_mk_iff, ha.eq]) (by simp)

/-- Conditional jumps, X form, have the operands and checks of loads and stores from a register (`branchReg` is `regRegOff`). -/
theorem DecodeAnswer.of_branchReg {mk : Reg → Reg → Off → Instr} (ha : AssignedAs f op)
    (hw : Writes (mk f.dst f.src f.off) ⟨op, f.dst, f.src, f.off, 0⟩ none [f.dst, f.src] := by exact {}) :
    DecodeAnswer f second (branchReg f mk) :=
  DecodeAnswer.of_regRegOff ha hw

theorem DecodeAnswer.of_atomicForm {mk : Reg → Reg → Off → Instr} {imm : Imm} (ha : AssignedAs f op) (himm : f.imm = imm)
    (hw : Writes (mk f.dst f.src f.off) ⟨op, f.dst, f.src, f.off, imm⟩ none [f.dst, f.src] := by exact {}) :
    DecodeAnswer f second (atomicForm f mk) :=
  .of_checks (unused := true) ha hw (by simp [fields_eq_mk_iff, ha.eq, himm]) (by simp)

theorem DecodeAnswer.of_storeImm {mk : Reg → Off → Imm → Instr} (ha : AssignedAs f op)
    (hw : Writes (mk f.dst f.off f.imm) ⟨op, f.dst, 0, f.off, f.imm⟩ none [f.dst] := by exact {}) :
    DecodeAnswer f second (storeImm f mk) :=
  .of_checks ha hw (by simp [fields_eq_mk_iff, ha.eq]) (by simp)

theorem DecodeAnswer.of_packetInd {mk : Reg → Imm → Instr} (ha : AssignedAs f op)
    (hw : Writes (mk f.src f.imm) ⟨op, 0, f.src, 0, f.imm⟩ none [f.src] := by exact {}) : DecodeAnswer f second (packetInd f mk) :=
  .of_checks ha hw (by simp [fields_eq_mk_iff, ha.eq]) (by simp)

theorem DecodeAnswer.of_gotoOff {mk : Off → Instr} (ha : AssignedAs f op)
    (hw : Writes (mk f.off) ⟨op, 0, 0, f.off, 0⟩ none [] := by exact {}) : DecodeAnswer f second (gotoOff f mk) :=
  .of_unused_fields ha hw (by simp +contextual [fields_eq_mk_iff, ha.eq])

theorem DecodeAnswer.of_gotoImm {mk : Imm → Instr} (ha : AssignedAs f op)
    (hw : Writes (mk f.imm) ⟨op, 0, 0, 0, f.imm⟩ none [] := by exact {}) : DecodeAnswer f second (gotoImm f mk) :=
  .of_unused_fields ha hw (by simp +contextual [fields_eq_mk_iff, ha.eq])

/-- ABS has the operand and checks of JA in class JMP32 (`packetAbs` is `gotoImm`). -/
theorem DecodeAnswer.of_packetAbs {mk : Imm → Instr} (ha : AssignedAs f op)
    (hw : Writes (mk f.imm) ⟨op, 0, 0, 0, f.imm⟩ none [] := by exact {}) :
    DecodeAnswer f second (packetAbs f mk) :=
  DecodeAnswer.of_gotoImm ha hw

theorem DecodeAnswer.of_callImm {mk : Imm → Instr} {src : Reg} (ha : AssignedAs f op) (hsrc : f.src = src)
    (hw : Writes (mk f.imm) ⟨op, 0, src, 0, f.imm⟩ none [] := by exact {}) : DecodeAnswer f second (callImm f mk) :=
  .of_unused_fields ha hw (by simp [fields_eq_mk_iff, ha.eq, hsrc])

theorem DecodeAnswer.of_bare (ha : AssignedAs f op) (hw : Writes i ⟨op, 0, 0, 0, 0⟩ none [] := by exact {}) :
    DecodeAnswer f second (bare f i) :=
  .of_unused_fields ha hw (by simp +contextual [fields_eq_mk_iff, ha.eq])

/-- A wide instruction: its second slot is the one that the encoder writes for `next_imm` (47_imm64.md R430). -/
theorem DecodeAnswer.of_wide {k : Imm → Decoded} (ha : AssignedAs f op)
    (hk : ∀ next, second = secondSlot next → f.off = 0 → f.dst.Valid → DecodeAnswer f second (k next)) :
    DecodeAnswer f second (wide f second k) := by
  cases second with
  | none => exact .refused ha.assigned
  | some g =>
    exact .of_demand ha fun hnext => .of_demand ha fun hoff => .of_demand ha fun hdst =>
      hk g.imm (some_eq_secondSlot hnext) (beq_iff_eq.mp hoff) (f.dst.ok_iff.mp hdst)

/-- A subtype of LD IMM DW that uses both words of its slots. -/
theorem DecodeAnswer.of_wide_row {src : Reg} {next : Imm} (ha : AssignedAs f op) (hsrc : f.src = src) (hoff : f.off = 0) (hdst : f.dst.Valid)
    (hsecond : second = secondSlot next)
    (hw : Writes i ⟨op, f.dst, src, 0, f.imm⟩ (secondSlot next) [f.dst] := by exact {}) : DecodeAnswer f second (.ok i) :=
  .of_writes ha hw (.inr hsecond.symm) (by simpa using hdst) (by simp [fields_eq_mk_iff, ha.eq, hsrc, hoff])

/-- A subtype of LD IMM DW whose second word is zero. -/
theorem DecodeAnswer.of_noNext {src : Reg} {next : Imm} (ha : AssignedAs f op) (hsrc : f.src = src) (hoff : f.off = 0) (hdst : f.dst.Valid)
    (hsecond : second = secondSlot next)
    (hw : Writes i ⟨op, f.dst, src, 0, f.imm⟩ (secondSlot 0) [f.dst] := by exact {}) : DecodeAnswer f second (noNext next i) :=
  .of_demand ha fun hnext => .of_wide_row ha hsrc hoff hdst (beq_iff_eq.mp hnext ▸ hsecond) hw

/-! ### The classes (30_encoding.md R102, R103, R107, R109)

An arm of a class is closed by the lemma of its operand form, so the arms are grouped by form; the last arm of each class is the opcode
byte that has no row. -/

-- Elaborated in parallel, the arms would be more threads at once than the memory limit of the check allows.
set_option Elab.async false

theorem answer_decodeLd : DecodeAnswer f second (decodeLd f second) := by
  unfold decodeLd
  split
  case h_1 h =>
    have ha := assignedAs h
    refine .of_wide ha fun next hsecond hoff hdst => ?_
    split
    case h_1 hsrc | h_3 hsrc | h_7 hsrc => exact .of_wide_row ha (eq_ofNat_of_toNat hsrc) hoff hdst hsecond
    case h_2 hsrc | h_4 hsrc | h_5 hsrc | h_6 hsrc => exact .of_noNext ha (eq_ofNat_of_toNat hsrc) hoff hdst hsecond
    · exact .refused ha.assigned
  case h_2 h | h_3 h | h_4 h =>
    exact .of_packetAbs (assignedAs h)
  case h_5 h | h_6 h | h_7 h =>
    exact .of_packetInd (assignedAs h)
  · exact .unassigned

theorem answer_decodeLdx : DecodeAnswer f second (decodeLdx f) := by
  unfold decodeLdx
  split
  case h_1 h | h_2 h | h_3 h | h_4 h | h_5 h | h_6 h | h_7 h =>
    exact .of_regRegOff (assignedAs h)
  · exact .unassigned

theorem answer_decodeSt : DecodeAnswer f second (decodeSt f) := by
  unfold decodeSt
  split
  case h_1 h | h_2 h | h_3 h | h_4 h =>
    exact .of_storeImm (assignedAs h)
  · exact .unassigned

theorem answer_decodeStx : DecodeAnswer f second (decodeStx f) := by
  unfold decodeStx
  split
  case h_1 h | h_2 h | h_3 h | h_4 h =>
    exact .of_regRegOff (assignedAs h)
  case h_5 h | h_6 h =>
    have ha := assignedAs h
    split
    case h_1 hsel | h_2 hsel | h_3 hsel | h_4 hsel | h_5 hsel | h_6 hsel | h_7 hsel | h_8 hsel | h_9 hsel |
        h_10 hsel =>
      exact .of_atomicForm ha (eq_ofNat_of_toNat hsel)
    · exact .refused ha.assigned
  · exact .unassigned

theorem answer_decodeAlu : DecodeAnswer f second (decodeAlu f) := by
  unfold decodeAlu
  split
  case h_1 h | h_3 h | h_5 h | h_9 h | h_11 h | h_13 h | h_15 h | h_20 h | h_22 h | h_24 h =>
    have ha := assignedAs h
    exact .of_noOff ha (.of_regImm ha)
  case h_2 h | h_4 h | h_6 h | h_10 h | h_12 h | h_14 h | h_16 h | h_21 h | h_25 h =>
    have ha := assignedAs h
    exact .of_noOff ha (.of_regReg ha)
  case h_17 h =>
    have ha := assignedAs h
    exact .of_noOff ha (.of_reg1 ha)
  case h_7 h | h_18 h =>
    have ha := assignedAs h
    split
    case h_1 hsel | h_2 hsel => exact .of_regImm ha (eq_ofNat_of_toNat hsel)
    · exact .refused ha.assigned
  case h_8 h | h_19 h =>
    have ha := assignedAs h
    split
    case h_1 hsel | h_2 hsel => exact .of_regReg ha (eq_ofNat_of_toNat hsel)
    · exact .refused ha.assigned
  case h_23 h =>
    have ha := assignedAs h
    split
    case h_1 hsel | h_2 hsel | h_3 hsel => exact .of_regReg ha (eq_ofNat_of_toNat hsel)
    · exact .refused ha.assigned
  case h_26 h | h_27 h =>
    have ha := assignedAs h
    split
    case h_1 hsel | h_2 hsel | h_3 hsel => exact .of_regWidth ha (eq_ofNat_of_toNat hsel)
    · exact .refused ha.assigned
  · exact .unassigned

theorem answer_decodeJmp : DecodeAnswer f second (decodeJmp f) := by
  unfold decodeJmp
  split
  case h_1 h =>
    exact .of_gotoOff (assignedAs h)
  case h_2 h | h_4 h | h_6 h | h_8 h | h_10 h | h_12 h | h_14 h | h_18 h | h_20 h | h_22 h | h_24 h =>
    exact .of_branchImm (assignedAs h)
  case h_3 h | h_5 h | h_7 h | h_9 h | h_11 h | h_13 h | h_15 h | h_19 h | h_21 h | h_23 h | h_25 h =>
    exact .of_branchReg (assignedAs h)
  case h_16 h =>
    have ha := assignedAs h
    split
    case h_1 hsel | h_2 hsel | h_3 hsel => exact .of_callImm ha (eq_ofNat_of_toNat hsel)
    · exact .refused ha.assigned
  case h_17 h =>
    exact .of_bare (assignedAs h)
  · exact .unassigned

theorem answer_decodeJmp32 : DecodeAnswer f second (decodeJmp32 f) := by
  unfold decodeJmp32
  split
  case h_1 h =>
    exact .of_gotoImm (assignedAs h)
  case h_2 h | h_4 h | h_6 h | h_8 h | h_10 h | h_12 h | h_14 h | h_16 h | h_18 h | h_20 h | h_22 h =>
    exact .of_branchImm (assignedAs h)
  case h_3 h | h_5 h | h_7 h | h_9 h | h_11 h | h_13 h | h_15 h | h_17 h | h_19 h | h_21 h | h_23 h =>
    exact .of_branchReg (assignedAs h)
  · exact .unassigned

theorem answer_decodeAlu64 : DecodeAnswer f second (decodeAlu64 f) := by
  unfold decodeAlu64
  split
  case h_1 h | h_3 h | h_5 h | h_9 h | h_11 h | h_13 h | h_15 h | h_20 h | h_22 h | h_24 h =>
    have ha := assignedAs h
    exact .of_noOff ha (.of_regImm ha)
  case h_2 h | h_4 h | h_6 h | h_10 h | h_12 h | h_14 h | h_16 h | h_21 h | h_25 h =>
    have ha := assignedAs h
    exact .of_noOff ha (.of_regReg ha)
  case h_17 h =>
    have ha := assignedAs h
    exact .of_noOff ha (.of_reg1 ha)
  case h_7 h | h_18 h =>
    have ha := assignedAs h
    split
    case h_1 hsel | h_2 hsel => exact .of_regImm ha (eq_ofNat_of_toNat hsel)
    · exact .refused ha.assigned
  case h_8 h | h_19 h =>
    have ha := assignedAs h
    split
    case h_1 hsel | h_2 hsel => exact .of_regReg ha (eq_ofNat_of_toNat hsel)
    · exact .refused ha.assigned
  case h_23 h =>
    have ha := assignedAs h
    split
    case h_1 hsel | h_2 hsel | h_3 hsel | h_4 hsel => exact .of_regReg ha (eq_ofNat_of_toNat hsel)
    · exact .refused ha.assigned
  case h_26 h =>
    have ha := assignedAs h
    split
    case h_1 hsel | h_2 hsel | h_3 hsel => exact .of_regWidth ha (eq_ofNat_of_toNat hsel)
    · exact .refused ha.assigned
  · exact .unassigned

/-- What the decoder answers for any fields: the inversion lemma from which the statements about decoding follow. -/
theorem answer_decodeFields : DecodeAnswer f second (decodeFields f second) := by
  unfold decodeFields
  split
  · exact answer_decodeLd
  · exact answer_decodeLdx
  · exact answer_decodeSt
  · exact answer_decodeStx
  · exact answer_decodeAlu
  · exact answer_decodeJmp
  · exact answer_decodeJmp32
  · exact answer_decodeAlu64

theorem DecodeAnswer.eq_of_not_mem (h : DecodeAnswer f second k) (hn : f.opcode ∉ assignedOpcodes) :
    k = .error (.unassignedOpcode f.opcode) := by
  cases h with
  | unassigned => rfl
  | refused ha | row ha => exact absurd ha hn

end

/-- Settles O5. Of the decoder's answers only the refusal that names the opcode byte is open to one outside the tables. -/
theorem unassignedOpcodesRefused : Obligations.UnassignedOpcodesRefused := fun e first second hn => by
  have h := answer_decodeFields (f := first.fields e) (second := second.map (Slot.fields e))
  simpa [decodeSlots] using h.eq_of_not_mem (by simpa using hn)

/-! ### The slots of an instruction -/

/-- An instruction has a second slot exactly where its opcode byte is 0x18 (30_encoding.md R98). -/
theorem encodeFields_isSome (i : Instr) : (encodeFields i).2.isSome = ((encodeFields i).1.opcode == 0x18) := by
  cases i <;> rfl

/-- Slots that decode are those that the encoder writes (30_encoding.md R97, R111): the converse of the round trip. -/
theorem decodeSlots_eq_ok {e : Endian} {first : Slot} {second : Option Slot} {i : Instr} (h : decodeSlots e first second = .ok i) :
    i.WellFormed ∧ (∀ next, i ≠ .immNext next) ∧ encodeSlots e i = first :: if first.isWide then second.toList else [] := by
  have hanswer := answer_decodeFields (f := first.fields e) (second := second.map (Slot.fields e))
  rw [← decodeSlots, h] at hanswer
  cases hanswer with
  | row ha hwf hfirst hsecond =>
    refine ⟨hwf, ?_, ?_⟩
    · rintro next rfl
      rw [← hfirst] at ha
      exact absurd ha zero_not_mem_assignedOpcodes
    · have hwide : (encodeFields i).2.isSome = first.isWide := by
        rw [encodeFields_isSome, hfirst, Slot.fields_opcode, Slot.isWide]
      rw [encodeSlots, hfirst, Fields.slot_fields, ← hwide]
      rcases hsecond with hs | hs
      · simp [hs]
      · cases second <;> simp [hs]

theorem decode_bytes_of_not_wide {e : Endian} {first : Slot} {rest : List Byte} (h : first.isWide = false) :
    decode e (first.bytes ++ rest) = (decodeSlots e first none).map fun i => (i, rest) := by
  simp [decode, h]

theorem decode_bytes_of_wide {e : Endian} {first second : Slot} {rest : List Byte} (h : first.isWide = true) :
    decode e (first.bytes ++ (second.bytes ++ rest)) = (decodeSlots e first (some second)).map fun i => (i, rest) := by
  simp [decode, h]

theorem decoded_map_eq_ok {d : Decoded} {rest rest' : List Byte} {i : Instr} (h : d.map (fun i => (i, rest')) = .ok (i, rest)) :
    d = .ok i ∧ rest' = rest := by
  cases d with
  | error => cases h
  | ok => cases h; exact ⟨rfl, rfl⟩

/-- Bytes that decode start with the slots that were decoded (30_encoding.md R90, R98). -/
theorem decode_eq_ok {e : Endian} {bytes rest : List Byte} {i : Instr} (h : decode e bytes = .ok (i, rest)) :
    ∃ first second, decodeSlots e first second = .ok i ∧
      bytes = (first :: if first.isWide then second.toList else []).flatMap Slot.bytes ++ rest := by
  unfold decode at h
  split at h
  · cases h
  · next first rest' hfirst =>
    split at h
    · next hwide =>
      split at h
      · cases h
      · next second rest'' hsecond =>
        obtain ⟨hi, rfl⟩ := decoded_map_eq_ok h
        exact ⟨first, some second, hi, by simp [takeSlot_eq_some hfirst, takeSlot_eq_some hsecond, hwide]⟩
    · next hwide =>
      obtain ⟨hi, rfl⟩ := decoded_map_eq_ok h
      exact ⟨first, none, hi, by simp [takeSlot_eq_some hfirst]⟩

/-- Settles O2. Bytes that decode start with slots that decode, and those are the slots that the encoder writes. -/
theorem decodedBytesAreTheEncoding : Obligations.DecodedBytesAreTheEncoding := by
  intro e bytes rest i h
  obtain ⟨first, second, hslots, hbytes⟩ := decode_eq_ok h
  obtain ⟨hwf, hnext, henc⟩ := decodeSlots_eq_ok hslots
  exact ⟨hwf, hnext, by rw [encode, henc, hbytes]⟩

/-! ### The round trip -/

section

open Sys2Proof.Laws.FieldRoundTrip

/-- The family `FieldRoundTrip` as one statement: its lemmas, in the order of the constructors, are the cases of an instruction. -/
theorem fieldRoundTrip (i : Instr) : Statement i :=
  i.casesOn (motive := Statement)
    addKAlu addXAlu subKAlu subXAlu mulKAlu mulXAlu divKAlu divXAlu sdivKAlu sdivXAlu orKAlu orXAlu andKAlu andXAlu lshKAlu lshXAlu
    rshKAlu rshXAlu negKAlu modKAlu modXAlu smodKAlu smodXAlu xorKAlu xorXAlu movKAlu movXAlu movsx8XAlu movsx16XAlu arshKAlu
    arshXAlu addKAlu64 addXAlu64 subKAlu64 subXAlu64 mulKAlu64 mulXAlu64 divKAlu64 divXAlu64 sdivKAlu64 sdivXAlu64 orKAlu64 orXAlu64
    andKAlu64 andXAlu64 lshKAlu64 lshXAlu64 rshKAlu64 rshXAlu64 negKAlu64 modKAlu64 modXAlu64 smodKAlu64 smodXAlu64 xorKAlu64
    xorXAlu64 movKAlu64 movXAlu64 movsx8XAlu64 movsx16XAlu64 movsx32XAlu64 arshKAlu64 arshXAlu64 endLeAlu16 endLeAlu32 endLeAlu64
    endBeAlu16 endBeAlu32 endBeAlu64 endToAlu6416 endToAlu6432 endToAlu6464 jaKJmp jaKJmp32 jeqKJmp jeqXJmp jeqKJmp32 jeqXJmp32
    jgtKJmp jgtXJmp jgtKJmp32 jgtXJmp32 jgeKJmp jgeXJmp jgeKJmp32 jgeXJmp32 jsetKJmp jsetXJmp jsetKJmp32 jsetXJmp32 jneKJmp jneXJmp
    jneKJmp32 jneXJmp32 jsgtKJmp jsgtXJmp jsgtKJmp32 jsgtXJmp32 jsgeKJmp jsgeXJmp jsgeKJmp32 jsgeXJmp32 jltKJmp jltXJmp jltKJmp32
    jltXJmp32 jleKJmp jleXJmp jleKJmp32 jleXJmp32 jsltKJmp jsltXJmp jsltKJmp32 jsltXJmp32 jsleKJmp jsleXJmp jsleKJmp32 jsleXJmp32
    callKJmpHelper callKJmpLocal callKJmpBtf exitKJmp memBLdx memHLdx memWLdx memDwLdx memBSt memHSt memWSt memDwSt memBStx memHStx
    memWStx memDwStx memsxBLdx memsxHLdx memsxWLdx atomicWStxAdd atomicWStxAddFetch atomicWStxOr atomicWStxOrFetch atomicWStxAnd
    atomicWStxAndFetch atomicWStxXor atomicWStxXorFetch atomicWStxXchg atomicWStxCmpxchg atomicDwStxAdd atomicDwStxAddFetch
    atomicDwStxOr atomicDwStxOrFetch atomicDwStxAnd atomicDwStxAndFetch atomicDwStxXor atomicDwStxXorFetch atomicDwStxXchg
    atomicDwStxCmpxchg immNext immDwLdImm64 immDwLdMapfd immDwLdMapfdVal immDwLdVaraddr immDwLdCodeaddr immDwLdMapidx
    immDwLdMapidxVal absWLd absHLd absBLd indWLd indHLd indBLd

end

/-- In the position of a second slot the row of opcode 0x00 is matched (30_encoding.md R110). -/
theorem decodeRow_of_eq_zero {f : Fields} {second : Option Fields} (h : f.opcode = 0) : decodeRow f second = decodeSecond f :=
  if_pos h

/-- The slots that the encoder writes for a well-formed instruction decode to it (30_encoding.md R97, R98). -/
theorem decodeSlots_encodeFields {e : Endian} {i : Instr} (hwf : i.WellFormed) (hnext : ∀ next, i ≠ .immNext next) :
    decodeSlots e ((encodeFields i).1.slot e) ((encodeFields i).2.map (Fields.slot e)) = .ok i := by
  have hrow := fieldRoundTrip i hwf
  have hop : (encodeFields i).1.opcode ≠ 0 := by
    intro hzero
    rw [decodeRow_of_eq_zero hzero, decodeSecond, demand_eq_ok] at hrow
    exact hnext _ (Except.ok.inj hrow.2).symm
  simpa [decodeSlots, decodeRow_of_ne hop, Function.comp_def] using hrow

/-- Decoding at the bytes of the encoding is decoding its slots. -/
theorem decode_encode_append (e : Endian) (i : Instr) (rest : List Byte) :
    decode e (encode e i ++ rest) =
      (decodeSlots e ((encodeFields i).1.slot e) ((encodeFields i).2.map (Fields.slot e))).map fun j => (j, rest) := by
  have hwide : ((encodeFields i).1.slot e).isWide = (encodeFields i).2.isSome := by
    rw [encodeFields_isSome, Slot.isWide, Fields.slot_b0]
  cases hsecond : (encodeFields i).2 with
  | none =>
    rw [hsecond] at hwide
    simpa [encode, encodeSlots, hsecond] using decode_bytes_of_not_wide hwide
  | some g =>
    rw [hsecond] at hwide
    simpa [encode, encodeSlots, hsecond] using decode_bytes_of_wide (second := g.slot e) hwide

/-- Settles O1. Decoding the encoding is decoding the slots that the encoder writes; for IMM_NEXT those match a row only in the position
of a second slot. -/
theorem decodeEncodeRoundTrip : Obligations.DecodeEncodeRoundTrip := by
  refine ⟨fun e i rest hwf hnext => ?_, fun e next rest => ⟨?_, fun slot hslot => ?_⟩⟩
  · rw [decode_encode_append, decodeSlots_encodeFields hwf hnext]
    rfl
  · rw [decode_encode_append, decodeSlots, decodeFields_zero (by simp [encodeFields])]
    rfl
  · obtain rfl : (encodeFields (.immNext next)).1.slot e = slot := (List.cons.inj hslot).1
    rw [Slot.fields_slot, ← decodeRow_of_eq_zero rfl]
    exact fieldRoundTrip (.immNext next) fun _ hr => nomatch hr

/-! ### Fixed words -/

/-- Settles O3, by running the encoder on the one instruction. -/
theorem workedExampleBytes : Obligations.WorkedExampleBytes := ⟨rfl, rfl, rfl⟩

/-- Settles O4, by running the decoder on the ten words. -/
theorem sampleWordsDecode : Obligations.SampleWordsDecode := ⟨rfl, rfl, rfl, rfl, rfl, rfl, rfl, rfl, rfl, rfl⟩

end Sys2Proof.Machine

/-! SUPPORT. Arithmetic and moves (40_alu32.md). An instruction that writes one register answers the state with that register finished, which
is the result and the whole frame that a claim states; the operation behind each of the thirteen codes is the integer law of that code. From
these two come the results of all arithmetic forms, and from the results what the law gives for zero divisors, signed operands and one
register as both operands. -/

namespace Sys2Proof.Machine

/-! ### Answers of the operations that write one register -/

/-- Ending at the next slot with `v` in a register that exists is the claim's result (00_scope.md R19, 10_state.md R41). -/
theorem State.registerResult_finish (s : State) {dst : Reg} (hd : dst.Valid) (v : Word) :
    RegisterResult s (s.finish dst v) dst v (s.pc + 1) := by
  refine ⟨⟨?_, fun r hr => ?_⟩, fun a => rfl, rfl, rfl, rfl, rfl, rfl, rfl, rfl, rfl, rfl⟩
  · rw [State.reg_finish, if_pos ⟨rfl, Nat.lt_succ_of_le hd⟩]
  · rw [State.reg_finish, if_neg fun h => hr h.1]

/-- An answer that goes on, with `v` in register `dst`, `pc` one further, and nothing else changed. -/
def AnswersWith (s : State) (r : Result) (dst : Reg) (v : Word) : Prop :=
  ∃ t, r = .next t ∧ RegisterResult s t dst v (s.pc + 1)

theorem AnswersWith.of_finish {s : State} {r : Result} {dst : Reg} {v : Word} (hd : dst.Valid)
    (h : r = .next (s.finish dst v)) : AnswersWith s r dst v := ⟨_, h, s.registerResult_finish hd v⟩

section
variable {s : State} {g : ConfGroup} {dst src : Reg} {b : Source} {x y : Word}

/-- Where the registers exist and hold values and the group is supported, nothing in an operation of class ALU faults. -/
theorem alu32_answers {f : Word32 → Word32 → Word32} {v : Word32} (hr : ∀ r ∈ dst :: b.regs, r.Valid)
    (hg : supports s.platform.groups g = true) (hx : s.reg dst = some x) (hv : b.value32 s = .ok v) :
    AnswersWith s (alu32 g f dst b s) dst (zext32 (f (low32 x) v)) :=
  .of_finish (hr dst List.mem_cons_self) (alu32_eq_next.mpr ⟨permit_of hr hg, x, v, hx, hv, rfl⟩)

theorem alu64_answers {f : Word → Word → Word} (hr : ∀ r ∈ dst :: b.regs, r.Valid)
    (hg : supports s.platform.groups g = true) (hx : s.reg dst = some x) (hy : b.value64 s = .ok y) :
    AnswersWith s (alu64 g f dst b s) dst (f x y) :=
  .of_finish (hr dst List.mem_cons_self) (alu64_eq_next.mpr ⟨permit_of hr hg, x, y, hx, hy, rfl⟩)

theorem neg32_answers (hd : dst.Valid) (hg : supports s.platform.groups g = true) (hx : s.reg dst = some x) :
    AnswersWith s (neg32 g dst s) dst (zext32 (arithNeg (low32 x))) :=
  .of_finish hd (neg32_eq_next.mpr ⟨permit_of (List.forall_mem_singleton.mpr hd) hg, x, hx, rfl⟩)

/-- A move does not ask that the destination holds a value (40_alu32.md R175, R176). -/
theorem mov32_answers {v : Word32} (hr : ∀ r ∈ dst :: b.regs, r.Valid) (hg : supports s.platform.groups g = true)
    (hv : b.value32 s = .ok v) : AnswersWith s (mov32 g dst b s) dst (zext32 v) :=
  .of_finish (hr dst List.mem_cons_self) (mov32_eq_next.mpr ⟨permit_of hr hg, v, hv, rfl⟩)

theorem movsx32_answers {k : Nat} (hr : ∀ r ∈ [dst, src], r.Valid) (hg : supports s.platform.groups g = true)
    (hy : s.reg src = some y) : AnswersWith s (movsx32 g k dst src s) dst (zext32 (sextLow k 32 y)) :=
  .of_finish (hr dst List.mem_cons_self) (movsx32_eq_next.mpr ⟨permit_of hr hg, y, hy, rfl⟩)

theorem forall_mem_regs_k {imm : Imm} (hd : dst.Valid) : ∀ r ∈ dst :: (Source.k imm).regs, r.Valid :=
  List.forall_mem_singleton.mpr hd

theorem forall_mem_regs_x (hd : dst.Valid) (hs : src.Valid) : ∀ r ∈ dst :: (Source.x src).regs, r.Valid :=
  List.forall_mem_cons.mpr ⟨hd, List.forall_mem_singleton.mpr hs⟩

theorem value64_x (h : s.reg src = some y) : (Source.x src).value64 s = .ok y := value64_eq_ok.mpr (.inr ⟨src, rfl, h⟩)

theorem value32_x (h : s.reg src = some y) : (Source.x src).value32 s = .ok (low32 y) :=
  value32_eq_ok.mpr (.inr ⟨src, y, rfl, h, rfl⟩)

end

/-! ### The integer laws -/

/-- The model's operation behind a code, the one that `exec` passes to `alu32` and `alu64`. -/
def ArithCode.operation {n : Nat} : ArithCode → BitVec n → BitVec n → BitVec n
  | .add => arithAdd
  | .sub => arithSub
  | .mul => arithMul
  | .div => arithDiv
  | .sdiv => arithSdiv
  | .or => arithOr
  | .and => arithAnd
  | .lsh => arithLsh
  | .rsh => arithRsh
  | .mod => arithMod
  | .smod => arithSmod
  | .xor => arithXor
  | .arsh => arithArsh

section
variable (c : ArithCode) (dst src : Reg) (imm : Imm) (s : State)

theorem exec_k32 : exec (c.k32 dst imm) s = alu32 c.group32 c.operation dst (.k imm) s := by cases c <;> rfl

theorem exec_x32 : exec (c.x32 dst src) s = alu32 c.group32 c.operation dst (.x src) s := by cases c <;> rfl

theorem exec_k64 : exec (c.k64 dst imm) s = alu64 c.group64 c.operation dst (.k imm) s := by cases c <;> rfl

theorem exec_x64 : exec (c.x64 dst src) s = alu64 c.group64 c.operation dst (.x src) s := by cases c <;> rfl

end

section
variable {n : Nat} (a b : BitVec n)

/-- Where the width is a power of two, masking the amount is reducing it modulo the width (40_alu32.md R146). -/
theorem shiftAmount_eq_mod (hn : ∃ k, n = 2 ^ k) : shiftAmount b = b.toNat % n := by
  obtain ⟨k, rfl⟩ := hn
  exact Nat.and_two_pow_sub_one_eq_mod b.toNat k

/-- A difference wraps as the integer difference does (40_alu32.md R140). -/
theorem sub_eq_ofInt : a - b = BitVec.ofInt n ((a.toNat : Int) - b.toNat) := by
  rw [Int.sub_eq_add_neg, BitVec.ofInt_add, BitVec.ofInt_neg, BitVec.ofInt_natCast, BitVec.ofInt_natCast,
    ← eq_ofNat_of_toNat rfl, ← eq_ofNat_of_toNat rfl, BitVec.sub_eq_add_neg]

/-- A bit vector whose number is `k`, wrapped, is `k` as a bit vector. -/
theorem eq_ofNat_of_toNat_mod {k : Nat} (h : a.toNat = k % 2 ^ n) : a = BitVec.ofNat n k :=
  BitVec.eq_of_toNat_eq (h.trans (BitVec.toNat_ofNat k n).symm)

/-- A left shift multiplies by a power of two. -/
theorem shiftLeft_eq_ofNat_mul (k : Nat) : a <<< k = BitVec.ofNat n (a.toNat * 2 ^ k) :=
  eq_ofNat_of_toNat_mod _ (by rw [BitVec.toNat_shiftLeft, Nat.shiftLeft_eq])

/-- A logical right shift divides by a power of two. -/
theorem ushiftRight_eq_ofNat_div (k : Nat) : a >>> k = BitVec.ofNat n (a.toNat / 2 ^ k) :=
  eq_ofNat_of_toNat (by rw [BitVec.toNat_ushiftRight, Nat.shiftRight_eq_div_pow])

/-- An arithmetic right shift divides by a power of two and rounds down. -/
theorem sshiftRight_eq_ofInt_fdiv (k : Nat) : a.sshiftRight k = BitVec.ofInt n (a.toInt.fdiv (2 ^ k)) := by
  rw [Int.fdiv_eq_ediv_of_nonneg _ (by positivity), ← BitVec.ofInt_toInt (x := a.sshiftRight k), BitVec.toInt_sshiftRight,
    Int.shiftRight_eq_div_pow, Nat.cast_pow, Nat.cast_ofNat]

/-- The model's operation is the integer law (40_alu32.md R140 to R146). -/
theorem ArithCode.operation_eq_result (hn : ∃ k, n = 2 ^ k) (c : ArithCode) : c.operation a b = c.result a b := by
  cases c with
  | add => exact BitVec.add_def a b
  | sub => exact sub_eq_ofInt a b
  | mul => exact eq_ofNat_of_toNat_mod _ (BitVec.toNat_mul a b)
  | div | sdiv | smod => rfl
  | or => exact eq_ofNat_of_toNat (BitVec.toNat_or ..)
  | and => exact eq_ofNat_of_toNat (BitVec.toNat_and ..)
  | xor => exact eq_ofNat_of_toNat (BitVec.toNat_xor ..)
  | lsh =>
    simp only [operation, result, arithLsh, shiftAmount_eq_mod b hn]
    exact shiftLeft_eq_ofNat_mul a _
  | rsh =>
    simp only [operation, result, arithRsh, shiftAmount_eq_mod b hn]
    exact ushiftRight_eq_ofNat_div a _
  | mod => simp only [operation, result, arithMod, Nat.mod_eq_sub_mul_div]
  | arsh =>
    simp only [operation, result, arithArsh, shiftAmount_eq_mod b hn]
    exact sshiftRight_eq_ofInt_fdiv a _

end

/-! ### The results of the arithmetic forms -/

section
variable {c : ArithCode} {dst src : Reg} {s : State} {x y : Word}

theorem k32_answers (hd : dst.Valid) (hg : supports s.platform.groups c.group32 = true) (hx : s.reg dst = some x) (imm : Imm) :
    AnswersWith s (exec (c.k32 dst imm) s) dst ((c.result (x.setWidth 32) imm).setWidth 64) := by
  rw [exec_k32, ← c.operation_eq_result _ _ ⟨5, rfl⟩]
  exact alu32_answers (forall_mem_regs_k hd) hg hx rfl

theorem x32_answers (hd : dst.Valid) (hg : supports s.platform.groups c.group32 = true) (hx : s.reg dst = some x)
    (hs : src.Valid) (hy : s.reg src = some y) :
    AnswersWith s (exec (c.x32 dst src) s) dst ((c.result (x.setWidth 32) (y.setWidth 32)).setWidth 64) := by
  rw [exec_x32, ← c.operation_eq_result _ _ ⟨5, rfl⟩]
  exact alu32_answers (forall_mem_regs_x hd hs) hg hx (value32_x hy)

theorem k64_answers (hd : dst.Valid) (hg : supports s.platform.groups c.group64 = true) (hx : s.reg dst = some x) (imm : Imm) :
    AnswersWith s (exec (c.k64 dst imm) s) dst (c.result x (imm.signExtend 64)) := by
  rw [exec_k64, ← c.operation_eq_result _ _ ⟨6, rfl⟩]
  exact alu64_answers (forall_mem_regs_k hd) hg hx rfl

theorem x64_answers (hd : dst.Valid) (hg : supports s.platform.groups c.group64 = true) (hx : s.reg dst = some x)
    (hs : src.Valid) (hy : s.reg src = some y) :
    AnswersWith s (exec (c.x64 dst src) s) dst (c.result x y) := by
  rw [exec_x64, ← c.operation_eq_result _ _ ⟨6, rfl⟩]
  exact alu64_answers (forall_mem_regs_x hd hs) hg hx (value64_x hy)

end

/-- Settles O10. An instruction is its code's operation at width 32, and that is the integer law at this width. -/
theorem arithResults32 : Obligations.ArithResults32 := fun _ _ _ _ hd hg hx =>
  ⟨k32_answers hd hg hx, fun _ _ hs hy => x32_answers hd hg hx hs hy⟩

/-- Settles O11. The same at width 64. -/
theorem arithResults64 : Obligations.ArithResults64 := fun _ _ _ _ hd hg hx =>
  ⟨k64_answers hd hg hx, fun _ _ hs hy => x64_answers hd hg hx hs hy⟩

/-! ### Negation and moves -/

/-- NEG is the negated integer, wrapped (40_alu32.md R140). -/
theorem arithNeg_eq_ofInt {n : Nat} (a : BitVec n) : arithNeg a = BitVec.ofInt n (-a.toInt) := by
  rw [BitVec.ofInt_neg, BitVec.ofInt_toInt, arithNeg]
  exact BitVec.zero_sub a

/-- Cutting a register's value to 32 bits and extending it with zeros is reducing it modulo 2^32 (10_state.md R32). -/
theorem zext32_low32 (x : Word) : zext32 (low32 x) = BitVec.ofNat 64 (x.toNat % 2 ^ 32) := by
  refine eq_ofNat_of_toNat ?_
  rw [zext32, low32, BitVec.toNat_setWidth, BitVec.toNat_setWidth]
  omega

/-- Settles O12. The two sign-extending moves are the model's `sextLow`, which is by definition the signed integer of the low bits. -/
theorem negateAndMove32 : Obligations.NegateAndMove32 := by
  refine fun dst s hd => ⟨fun x hx => ?_, fun imm => mov32_answers (forall_mem_regs_k hd) (supports_base32 _) rfl,
    fun src y hs hy => ⟨?_, movsx32_answers (forall_mem_regs_x hd hs) (supports_base32 _) hy,
      movsx32_answers (forall_mem_regs_x hd hs) (supports_base32 _) hy⟩⟩
  · rw [← arithNeg_eq_ofInt]
    exact neg32_answers hd (supports_base32 _) hx
  · rw [← zext32_low32]
    exact mov32_answers (forall_mem_regs_x hd hs) (supports_base32 _) (value32_x hy)

/-! ### Zero divisors -/

section
variable {n : Nat} (a : BitVec n)

/-- Both divisions by zero give zero (40_alu32.md R142). -/
theorem ArithCode.result_zero_of_div {c : ArithCode} (hc : c ∈ [ArithCode.div, .sdiv]) : c.result a 0 = 0 := by
  simp only [List.mem_cons, List.not_mem_nil, or_false] at hc
  obtain rfl | rfl := hc
  · simp [ArithCode.result]
  · simp [ArithCode.result]

/-- Both remainders by zero give the dividend (40_alu32.md R143). -/
theorem ArithCode.result_zero_of_mod {c : ArithCode} (hc : c ∈ [ArithCode.mod, .smod]) : c.result a 0 = a := by
  simp only [List.mem_cons, List.not_mem_nil, or_false] at hc
  obtain rfl | rfl := hc
  · simp [ArithCode.result]
  · simp [ArithCode.result]

end

theorem setWidth_eq_zero_of_mod {y : Word} (h : y.toNat % 2 ^ 32 = 0) : y.setWidth 32 = 0 :=
  BitVec.eq_of_toNat_eq ((BitVec.toNat_setWidth 32 y).trans h)

/-- The four forms of an operation in the groups of MUL, DIV and MOD, with a zero divisor: the law's result for it, in the class's
width (40_alu32.md R142, R143). -/
theorem answers_zero_divisor {c : ArithCode} (hc : c.isDivMul = true) {dst : Reg} {s : State} {x : Word} (hd : dst.Valid)
    (hx : s.reg dst = some x) {u v : Word} (hu : (c.result (x.setWidth 32) 0).setWidth 64 = u) (hv : c.result x 0 = v) :
    (supports s.platform.groups .divmul32 = true →
      AnswersWith s (exec (c.k32 dst 0) s) dst u ∧
      ∀ src y, src.Valid → s.reg src = some y → y.toNat % 2 ^ 32 = 0 → AnswersWith s (exec (c.x32 dst src) s) dst u) ∧
    (supports s.platform.groups .divmul64 = true →
      AnswersWith s (exec (c.k64 dst 0) s) dst v ∧
      ∀ src, src.Valid → s.reg src = some 0 → AnswersWith s (exec (c.x64 dst src) s) dst v) := by
  have h32 : c.group32 = .divmul32 := if_pos hc
  have h64 : c.group64 = .divmul64 := if_pos hc
  subst hu hv
  refine ⟨fun hg => ⟨k32_answers hd (h32 ▸ hg) hx 0, fun src y hs hy hz => ?_⟩,
    fun hg => ⟨k64_answers hd (h64 ▸ hg) hx 0, fun src hs hy => x64_answers hd (h64 ▸ hg) hx hs hy⟩⟩
  rw [← setWidth_eq_zero_of_mod hz]
  exact x32_answers hd (h32 ▸ hg) hx hs hy

/-- Settles O14. The results of the four forms, with the law's value for a zero divisor. -/
theorem divisionByZero : Obligations.DivisionByZero := by
  intro c hc dst s x hd hx
  have hdm : c.isDivMul = true := by
    revert c; decide
  exact answers_zero_divisor hdm hd hx (by rw [c.result_zero_of_div _ hc]; rfl) (c.result_zero_of_div _ hc)

/-- Settles O15. The same with the remainders, of which the law keeps the dividend. -/
theorem moduloByZero : Obligations.ModuloByZero := by
  intro c hc dst s x hd hx
  have hdm : c.isDivMul = true := by
    revert c; decide
  refine answers_zero_divisor hdm hd hx ?_ (c.result_zero_of_mod _ hc)
  rw [c.result_zero_of_mod _ hc]
  exact zext32_low32 x

/-! ### Signed division -/

section
variable {n : Nat} {a b : BitVec n}

/-- What R145 says of a quotient and a remainder: truncated division, but for the one overflow. -/
def TruncatedDivision (a b q r : BitVec n) : Prop :=
  if a.toInt = -2 ^ (n - 1) ∧ b.toInt = -1 then q = a ∧ r = 0
  else a.toInt = b.toInt * q.toInt + r.toInt ∧ r.toInt.natAbs < b.toInt.natAbs ∧
    (r.toInt = 0 ∨ r.toInt.sign = a.toInt.sign)

theorem toInt_neg_one (hn : 0 < n) : (-1#n).toInt = -1 := by
  rw [BitVec.neg_one_eq_allOnes, BitVec.toInt_allOnes, if_pos hn]

/-- The operands of the one overflow, as bit vectors. -/
theorem overflow_iff (hn : 0 < n) : a.toInt = -2 ^ (n - 1) ∧ b.toInt = -1 ↔ a = BitVec.intMin n ∧ b = -1#n := by
  rw [← BitVec.toInt_inj, ← BitVec.toInt_inj (y := -1#n), BitVec.toInt_intMin_of_pos hn, toInt_neg_one hn]

theorem result_sdiv_eq (hb : b.toInt ≠ 0) : ArithCode.sdiv.result a b = a.sdiv b := by
  refine BitVec.eq_of_toInt_eq ?_
  rw [BitVec.toInt_sdiv, ArithCode.result, if_neg hb, BitVec.toInt_ofInt]

theorem result_smod_eq (hb : b.toInt ≠ 0) : ArithCode.smod.result a b = a.srem b := by
  rw [ArithCode.result, if_neg hb, ← Int.tmod_def, ← BitVec.toInt_srem, BitVec.ofInt_toInt]

/-- The remainder of truncated division is zero or has the sign of the dividend. -/
theorem tmod_eq_zero_or_sign_eq (x y : Int) : x.tmod y = 0 ∨ (x.tmod y).sign = x.sign := by
  by_cases h : y ∣ x
  · exact .inl (Int.tmod_eq_zero_of_dvd h)
  · exact .inr (by rw [Int.sign_tmod, if_neg h])

/-- The results of SDIV and SMOD are such a quotient and remainder (40_alu32.md R145). -/
theorem truncatedDivision_result (hn : 0 < n) (hb : b.toInt ≠ 0) :
    TruncatedDivision a b (ArithCode.sdiv.result a b) (ArithCode.smod.result a b) := by
  rw [result_sdiv_eq hb, result_smod_eq hb]
  by_cases h : a = BitVec.intMin n ∧ b = -1#n
  · rw [TruncatedDivision, if_pos ((overflow_iff hn).mpr h)]
    obtain ⟨rfl, rfl⟩ := h
    refine ⟨BitVec.intMin_sdiv_neg_one, BitVec.eq_of_toInt_eq ?_⟩
    rw [BitVec.toInt_srem, toInt_neg_one hn, Int.tmod_neg, Int.tmod_one, BitVec.ofNat_eq_ofNat, BitVec.toInt_zero]
  · rw [TruncatedDivision, if_neg fun ho => h ((overflow_iff hn).mp ho),
      BitVec.toInt_sdiv_of_ne_or_ne a b (not_and_or.mp h), BitVec.toInt_srem, Int.natAbs_tmod]
    exact ⟨(Int.mul_tdiv_add_tmod _ _).symm, Nat.mod_lt _ (Int.natAbs_pos.mpr hb), tmod_eq_zero_or_sign_eq _ _⟩

end

/-- Settles O16. The results of the two instructions in each class are those of the law, which are a truncated quotient and its remainder. -/
theorem signedDivisionLaw : Obligations.SignedDivisionLaw := by
  refine fun dst src s x y hd hs hx hy => ⟨fun hg hb => ?_, fun hg hb => ?_⟩
  · obtain ⟨tq, hq, ⟨hquot, -⟩, -⟩ := x64_answers (c := .sdiv) hd hg hx hs hy
    obtain ⟨tr, hr, ⟨hrem, -⟩, -⟩ := x64_answers (c := .smod) hd hg hx hs hy
    exact ⟨tq, tr, _, _, hq, hquot, hr, hrem, truncatedDivision_result (by decide) hb⟩
  · obtain ⟨tq, hq, ⟨hquot, -⟩, -⟩ := x32_answers (c := .sdiv) hd hg hx hs hy
    obtain ⟨tr, hr, ⟨hrem, -⟩, -⟩ := x32_answers (c := .smod) hd hg hx hs hy
    exact ⟨tq, tr, _, _, hq, hquot, hr, hrem, truncatedDivision_result (by decide) hb⟩

/-! ### One register as both operands -/

section
variable {n : Nat} (a : BitVec n)

theorem result_add_self : ArithCode.add.result a a = BitVec.ofNat n (2 * a.toNat) := by
  rw [ArithCode.result, Nat.two_mul]

theorem result_sub_self : ArithCode.sub.result a a = 0 := by simp [ArithCode.result]

theorem result_xor_self : ArithCode.xor.result a a = 0 := by simp [ArithCode.result]

theorem result_and_self : ArithCode.and.result a a = a := by simp [ArithCode.result]

theorem result_or_self : ArithCode.or.result a a = a := by simp [ArithCode.result]

/-- A value divided by itself is 1, and 0 where the value is 0 (40_alu32.md R142). -/
theorem result_div_self : ArithCode.div.result a a = if a.toNat = 0 then 0 else 1 :=
  ite_congr rfl (fun _ => rfl) fun h => congrArg (BitVec.ofNat n) (Nat.div_self (Nat.pos_of_ne_zero h))

/-- A value modulo itself is 0: where the value is 0, it is kept (40_alu32.md R143). -/
theorem result_mod_self : ArithCode.mod.result a a = 0 := by
  by_cases h : a.toNat = 0
  · rw [ArithCode.result, if_pos h]
    exact BitVec.eq_of_toNat_eq h
  · simp [ArithCode.result, h, Nat.div_self (Nat.pos_of_ne_zero h)]

end

/-- Doubling the low half in 32 bits keeps the low half of the doubled value (10_state.md R32). -/
theorem setWidth_double (x : Word) :
    (BitVec.ofNat 32 (2 * (x.setWidth 32).toNat)).setWidth 64 = BitVec.ofNat 64 (2 * x.toNat % 2 ^ 32) := by
  refine eq_ofNat_of_toNat ?_
  rw [BitVec.toNat_setWidth, BitVec.toNat_ofNat, BitVec.toNat_setWidth]
  omega

section
variable {c : ArithCode} {r : Reg} {s : State} {x v : Word}

theorem x64_self_answers (hr : r.Valid) (hx : s.reg r = some x) (hg : supports s.platform.groups c.group64 = true)
    (hv : c.result x x = v) : AnswersWith s (exec (c.x64 r r) s) r v :=
  hv ▸ x64_answers hr hg hx hr hx

theorem x32_self_answers (hr : r.Valid) (hx : s.reg r = some x) (hg : supports s.platform.groups c.group32 = true) {w : Word32}
    (hw : c.result (x.setWidth 32) (x.setWidth 32) = w) (hv : w.setWidth 64 = v) : AnswersWith s (exec (c.x32 r r) s) r v :=
  hv ▸ hw ▸ x32_answers hr hg hx hr hx

end

/-- Settles O17. The same register is an operand pair like any other; divmul64 includes divmul32 (00_scope.md R3). -/
theorem sameRegisterOperands : Obligations.SameRegisterOperands := by
  intro r s x hr hx h64 hdm64
  have hdm32 : supports s.platform.groups .divmul32 = true := (supports_divmul32_iff _).mpr (.inr hdm64)
  have h32 : supports s.platform.groups .base32 = true := supports_base32 _
  simp only [List.forall_mem_cons]
  refine ⟨x64_self_answers (c := .add) hr hx h64 (result_add_self x),
    x64_self_answers (c := .sub) hr hx h64 (result_sub_self x),
    x64_self_answers (c := .xor) hr hx h64 (result_xor_self x),
    x64_self_answers (c := .and) hr hx h64 (result_and_self x),
    x64_self_answers (c := .or) hr hx h64 (result_or_self x),
    x64_self_answers (c := .div) hr hx hdm64 ?div64,
    x64_self_answers (c := .mod) hr hx hdm64 (result_mod_self x),
    x32_self_answers (c := .add) hr hx h32 (result_add_self _) (setWidth_double x),
    x32_self_answers (c := .sub) hr hx h32 (result_sub_self _) rfl,
    x32_self_answers (c := .xor) hr hx h32 (result_xor_self _) rfl,
    x32_self_answers (c := .and) hr hx h32 (result_and_self _) (zext32_low32 x),
    x32_self_answers (c := .or) hr hx h32 (result_or_self _) (zext32_low32 x),
    x32_self_answers (c := .div) hr hx hdm32 (result_div_self _) ?div32,
    x32_self_answers (c := .mod) hr hx hdm32 (result_mod_self _) rfl, nofun⟩
  case div64 =>
    rw [result_div_self]
    exact if_congr (BitVec.toNat_eq (y := 0)).symm rfl rfl
  case div32 =>
    rw [BitVec.toNat_setWidth, apply_ite (BitVec.setWidth 64)]
    rfl

end Sys2Proof.Machine

/-! SUPPORT. Negation and moves of class ALU64 (41_alu64.md R228, R235 to R239): what their three operations answer where nothing in them
faults. Each form is one of these operations, and its result is the claim's by the integer reading of negation and of sign extension. -/

namespace Sys2Proof.Machine

/-! ### Answers of negation and the moves -/

section
variable {s : State} {g : ConfGroup} {dst src : Reg} {b : Source} {x y : Word}

theorem neg64_answers (hd : dst.Valid) (hg : supports s.platform.groups g = true) (hx : s.reg dst = some x) :
    AnswersWith s (neg64 g dst s) dst (arithNeg x) :=
  .of_finish hd (neg64_eq_next.mpr ⟨permit_of (List.forall_mem_singleton.mpr hd) hg, x, hx, rfl⟩)

/-- A move does not ask that the destination holds a value (41_alu64.md R235, R236). -/
theorem mov64_answers (hr : ∀ r ∈ dst :: b.regs, r.Valid) (hg : supports s.platform.groups g = true)
    (hy : b.value64 s = .ok y) : AnswersWith s (mov64 g dst b s) dst y :=
  .of_finish (hr dst List.mem_cons_self) (mov64_eq_next.mpr ⟨permit_of hr hg, y, hy, rfl⟩)

theorem movsx64_answers {k : Nat} (hr : ∀ r ∈ [dst, src], r.Valid) (hg : supports s.platform.groups g = true)
    (hy : s.reg src = some y) : AnswersWith s (movsx64 g k dst src s) dst (sextLow k 64 y) :=
  .of_finish (hr dst List.mem_cons_self) (movsx64_eq_next.mpr ⟨permit_of hr hg, y, hy, rfl⟩)

end

/-! ### Sign extension as an integer -/

/-- Sign extension of an immediate keeps its signed integer (40_alu32.md R147). -/
theorem sextImm_eq_ofInt (imm : Imm) : sextImm imm = BitVec.ofInt 64 imm.toInt := rfl

/-- Sign extension of the low bits keeps their signed integer (40_alu32.md R147). -/
theorem sextLow_eq_ofInt (k n : Nat) (v : Word) : sextLow k n v = BitVec.ofInt n (v.setWidth k).toInt := rfl

/-! ### The results of the forms -/

section
variable {s : State} {dst src : Reg} {y : Word}

/-- The three sign-extending moves, by the width of what they extend (41_alu64.md R237 to R239). -/
theorem movsx64_answers_ofInt (k : Nat) (hd : dst.Valid) (hg : supports s.platform.groups .base64 = true) (hs : src.Valid)
    (hy : s.reg src = some y) :
    AnswersWith s (movsx64 .base64 k dst src s) dst (BitVec.ofInt 64 (y.setWidth k).toInt) := by
  rw [← sextLow_eq_ofInt]
  exact movsx64_answers (forall_mem_regs_x hd hs) hg hy

end

/-- Settles O13. NEG is the negated integer, the immediate and the low bits of the source are extended as integers, and MOV from a register
is its value. -/
theorem negateAndMove64 : Obligations.NegateAndMove64 := by
  refine fun dst s hd hg => ⟨fun x hx => ?neg, fun imm => ?movK, fun src y hs hy =>
    ⟨mov64_answers (forall_mem_regs_x hd hs) hg (value64_x hy), movsx64_answers_ofInt 8 hd hg hs hy,
      movsx64_answers_ofInt 16 hd hg hs hy, movsx64_answers_ofInt 32 hd hg hs hy⟩⟩
  case neg =>
    rw [← arithNeg_eq_ofInt]
    exact neg64_answers hd hg hx
  case movK =>
    rw [← sextImm_eq_ofInt]
    exact mov64_answers (forall_mem_regs_k hd) hg rfl

end Sys2Proof.Machine

/-! SUPPORT. The nine byte swaps (42_byteswap.md R260 to R270). Each puts into its register either the low bytes of what it held or
those bytes in the other order; that the bytes of a value and the value of bytes undo each other gives the result of one swap, as the
claim reads it in integers, and of two. -/

namespace Sys2Proof.Machine

/-! ### The bytes of a value and the value of bytes -/

/-- The low bytes of a word are the digits of its number to the base 256 (00_scope.md R17). -/
theorem hostBytes_little_toNat (v : Word) (n : Nat) : hostBytes .little n v.toNat = leBytes v n := by
  refine List.map_congr_left fun k _ => BitVec.eq_of_toNat_eq ?_
  rw [if_pos rfl, BitVec.extractLsb'_toNat, BitVec.toNat_ofNat, Nat.shiftRight_eq_div_pow, Nat.pow_mul]

/-- Above a byte, a value shifted by eight bits only adds. -/
theorem byte_or_shiftLeft_eq_add (b : Byte) (v : Word) : b.setWidth 64 ||| (v <<< 8) = b.setWidth 64 + v <<< 8 := by
  refine (BitVec.add_eq_or_of_and_eq_zero _ _ (BitVec.eq_of_getLsbD_eq fun i _ => ?_)).symm
  by_cases h : i < 8
  · simp [h]
  · simp [BitVec.getLsbD_of_ge b i (Nat.le_of_not_lt h)]

/-- The word that bytes make, the least significant first, is the number that they denote on a little-endian host. -/
theorem ofLeBytes_eq_ofNat (bs : List Byte) : ofLeBytes bs = BitVec.ofNat 64 (hostValue .little bs) := by
  induction bs with
  | nil => rfl
  | cons b bs ih =>
    have hvalue : hostValue .little (b :: bs) = b.toNat + hostValue .little bs * 2 ^ 8 := by
      rw [Nat.mul_comm]; rfl
    rw [ofLeBytes, ih, byte_or_shiftLeft_eq_add, hvalue, BitVec.ofNat_add, shiftLeft_eq_ofNat_mul, ← BitVec.ofNat_toNat]
    exact congrArg _ (eq_ofNat_of_toNat_mod _ (by simp)).symm

/-- Bytes denote on a big-endian host what they denote in the other order on a little-endian one (20_memory.md R61). -/
theorem hostValue_little_reverse (bs : List Byte) : hostValue .little bs.reverse = hostValue .big bs := by
  simp only [hostValue, List.foldr_reverse, Nat.add_comm]

/-- The bytes of what bytes make are these bytes, where a word has room for them. -/
theorem leBytes_ofLeBytes {n : Nat} {bs : List Byte} (hlen : bs.length = n) (hn : n ≤ 8) : leBytes (ofLeBytes bs) n = bs := by
  subst hlen
  refine List.ext_getElem (leBytes_length ..) fun k _ hk => BitVec.eq_of_getLsbD_eq fun i hi => ?_
  have hbyte : (8 * k + i) / 8 = k := by omega
  have hbit : (8 * k + i) % 8 = i := by omega
  rw [leBytes_getElem, BitVec.getLsbD_extractLsb', ofLeBytes_getLsbD _ _ (by omega), hbyte, hbit]
  simp [hi, hk]

/-! ### One swap and two -/

section
variable {n : Nat} (v : Word)

/-- Reversing bytes, in integers: the low bytes in rising order, read as a big-endian host reads them (00_scope.md R17). -/
theorem bswap_eq_ofNat : bswap n v = BitVec.ofNat 64 (hostValue .big (hostBytes .little n v.toNat)) := by
  rw [bswap, ofLeBytes_eq_ofNat, hostValue_little_reverse, hostBytes_little_toNat]

theorem ofLeBytes_leBytes_eq_ofNat : ofLeBytes (leBytes v n) = BitVec.ofNat 64 (v.toNat % 256 ^ n) :=
  (ofLeBytes_leBytes v n).trans (setWidth_setWidth_bytes v n)

/-- Converting to a byte order, in integers: the low bytes where it is the host's order, and else these reversed (42_byteswap.md R261). -/
theorem convert_eq_ofNat (host target : Endian) :
    convert host target n v = if host = target then BitVec.ofNat 64 (v.toNat % 256 ^ n)
      else BitVec.ofNat 64 (hostValue .big (hostBytes .little n v.toNat)) := by
  rw [convert, bswap_eq_ofNat, ofLeBytes_leBytes_eq_ofNat]

/-- Reversing twice restores the low bytes (42_byteswap.md R268 to R270). -/
theorem bswap_bswap (hn : n ≤ 8) : bswap n (bswap n v) = BitVec.ofNat 64 (v.toNat % 256 ^ n) := by
  have hlen : (leBytes v n).reverse.length = n := List.length_reverse.trans (leBytes_length v n)
  rw [bswap, bswap, leBytes_ofLeBytes hlen hn, List.reverse_reverse, ofLeBytes_leBytes_eq_ofNat]

/-- Converting twice keeps the low bytes twice or reverses them twice. -/
theorem convert_convert (hn : n ≤ 8) (host target : Endian) :
    convert host target n (convert host target n v) = BitVec.ofNat 64 (v.toNat % 256 ^ n) := by
  by_cases h : host = target
  · simp only [convert, if_pos h]
    rw [leBytes_ofLeBytes (leBytes_length v n) hn, ofLeBytes_leBytes_eq_ofNat]
  · simp only [convert, if_neg h, bswap_bswap v hn]

end

/-! ### The answers of the instructions -/

section
variable {s t u : State} {g : ConfGroup} {dst : Reg} {x : Word} {f : Word → Word}

theorem swapRegister_answers (hd : dst.Valid) (hg : supports s.platform.groups g = true) (hx : s.reg dst = some x) :
    AnswersWith s (swapRegister g f dst s) dst (f x) :=
  .of_finish hd (swapRegister_eq_next.mpr ⟨permit_of (List.forall_mem_singleton.mpr hd) hg, x, hx, rfl⟩)

theorem convert_answers (n : Nat) (e : Endian) (hd : dst.Valid) (hg : supports s.platform.groups g = true)
    (hx : s.reg dst = some x) :
    AnswersWith s (swapRegister g (convert s.platform.endian e n) dst s) dst
      (if s.platform.endian = e then BitVec.ofNat 64 (x.toNat % 256 ^ n)
        else BitVec.ofNat 64 (hostValue .big (hostBytes .little n x.toNat))) :=
  convert_eq_ofNat x .. ▸ swapRegister_answers hd hg hx

theorem bswap_answers (n : Nat) (hd : dst.Valid) (hg : supports s.platform.groups g = true) (hx : s.reg dst = some x) :
    AnswersWith s (swapRegister g (bswap n) dst s) dst (BitVec.ofNat 64 (hostValue .big (hostBytes .little n x.toNat))) :=
  bswap_eq_ofNat x ▸ swapRegister_answers hd hg hx

/-- A swap that goes on has written what it does to the value of its register, which exists, and has left the platform as it was. -/
theorem reg_of_swapRegister (h : swapRegister g f dst s = .next t) (hx : s.reg dst = some x) :
    t.reg dst = some (f x) ∧ t.platform = s.platform := by
  obtain ⟨hp, y, hy, rfl⟩ := swapRegister_eq_next.mp h
  obtain rfl : x = y := Option.some.inj (hx.symm.trans hy)
  have hd : dst.Valid := List.forall_mem_singleton.mp (permit_eq_ok.mp hp).1
  exact ⟨by rw [State.reg_finish, if_pos ⟨rfl, Nat.lt_succ_of_le hd⟩], rfl⟩

variable {n : Nat} {e : Endian}

theorem reg_of_swapRegister_bswap_twice (hn : n ≤ 8) (hx : s.reg dst = some x)
    (hst : swapRegister g (bswap n) dst s = .next t) (htu : swapRegister g (bswap n) dst t = .next u) :
    u.reg dst = some (BitVec.ofNat 64 (x.toNat % 256 ^ n)) := by
  obtain ⟨ht, -⟩ := reg_of_swapRegister hst hx
  rw [(reg_of_swapRegister htu ht).1, bswap_bswap x hn]

/-- No swap changes the host's byte order, so that both convert between the same two orders. -/
theorem reg_of_swapRegister_convert_twice (hn : n ≤ 8) (hx : s.reg dst = some x)
    (hst : swapRegister g (convert s.platform.endian e n) dst s = .next t)
    (htu : swapRegister g (convert t.platform.endian e n) dst t = .next u) :
    u.reg dst = some (BitVec.ofNat 64 (x.toNat % 256 ^ n)) := by
  obtain ⟨ht, hplatform⟩ := reg_of_swapRegister hst hx
  rw [(reg_of_swapRegister htu ht).1, hplatform, convert_convert x hn]

end

/-- Settles O19. Each instruction is a swap by `convert` to the order that it names or by `bswap`; only the three of width 64 are
outside base32. -/
theorem byteSwapResults : Obligations.ByteSwapResults := by
  intro dst s x hd hx
  have h32 : supports s.platform.groups .base32 = true := supports_base32 _
  simp only [List.forall_mem_cons]
  exact ⟨⟨convert_answers 2 .little hd h32 hx, convert_answers 4 .little hd h32 hx, convert_answers 2 .big hd h32 hx,
      convert_answers 4 .big hd h32 hx, bswap_answers 2 hd h32 hx, bswap_answers 4 hd h32 hx, nofun⟩,
    fun h64 => ⟨convert_answers 8 .little hd h64 hx, convert_answers 8 .big hd h64 hx, bswap_answers 8 hd h64 hx, nofun⟩⟩

/-- Settles O20. Each instruction is a swap by `convert` or by `bswap`, and either of them applied twice gives the low bytes. -/
theorem byteSwapTwice : Obligations.ByteSwapTwice := by
  intro dst s t u x hx
  simp only [List.forall_mem_cons]
  have h2 : 2 ≤ 8 := by decide
  have h4 : 4 ≤ 8 := by decide
  have h8 : 8 ≤ 8 := le_rfl
  exact ⟨reg_of_swapRegister_convert_twice h2 hx, reg_of_swapRegister_convert_twice h4 hx,
    reg_of_swapRegister_convert_twice h8 hx, reg_of_swapRegister_convert_twice h2 hx,
    reg_of_swapRegister_convert_twice h4 hx, reg_of_swapRegister_convert_twice h8 hx,
    reg_of_swapRegister_bswap_twice h2 hx, reg_of_swapRegister_bswap_twice h4 hx,
    reg_of_swapRegister_bswap_twice h8 hx, nofun⟩

end Sys2Proof.Machine

/-! SUPPORT. Jumps (43_jump.md R280 to R331). A jump writes `pc` alone, so that its answer is the target and the whole frame that a claim
states; the test behind each of the eleven codes decides the condition of that code. From these two come the results of all conditional
forms. -/

namespace Sys2Proof.Machine

/-! ### Answers of the operations that write `pc` alone -/

/-- Going on at a displacement from `next_pc` is the claim's result (10_state.md R41). -/
theorem State.jumpResult_jump (s : State) (d : Int) : JumpResult s (s.jump d) (s.pc + 1 + d) :=
  ⟨s.reg_jump d, fun _ => rfl, rfl, rfl, rfl, rfl, rfl, rfl, rfl, rfl, rfl⟩

/-- Going on at `next_pc` is the claim's result (10_state.md R41). -/
theorem State.jumpResult_advance (s : State) : JumpResult s s.advance (s.pc + 1) :=
  ⟨s.reg_advance, fun _ => rfl, rfl, rfl, rfl, rfl, rfl, rfl, rfl, rfl, rfl⟩

/-- An answer that goes on at displacement `d` from `next_pc` where `p` holds and at `next_pc` where it does not, with nothing else
changed. -/
def BranchesWith (s : State) (r : Result) (p : Prop) (d : Int) : Prop :=
  ∃ t, r = .next t ∧ (p → JumpResult s t (s.pc + 1 + d)) ∧ (¬ p → JumpResult s t (s.pc + 1))

/-- A Boolean that decides `p` chooses between the two ends of a conditional jump. -/
theorem BranchesWith.of_ite {s : State} {r : Result} {p : Prop} {d : Int} {c : Bool} (hc : c = true ↔ p)
    (h : r = .next (if c then s.jump d else s.advance)) : BranchesWith s r p d := by
  refine ⟨_, h, fun hp => ?taken, fun hp => ?notTaken⟩
  case taken =>
    rw [if_pos (hc.mpr hp)]
    exact s.jumpResult_jump d
  case notTaken =>
    rw [if_neg (mt hc.mp hp)]
    exact s.jumpResult_advance

section
variable {s : State} {g : ConfGroup} {dst : Reg} {b : Source} {off : Off} {x : Word} {p : Prop}

/-- Where the group is supported, nothing in an unconditional jump faults: it names no register. -/
theorem jumpAlways_answers (hg : supports s.platform.groups g = true) (d : Int) :
    ∃ t, jumpAlways g d s = .next t ∧ JumpResult s t (s.pc + 1 + d) :=
  ⟨_, jumpAlways_eq_next.mpr ⟨permit_of nofun hg, rfl⟩, s.jumpResult_jump d⟩

/-- Where the registers exist and hold values and the group is supported, nothing in a conditional jump faults. -/
theorem branch64_answers {cond : Word → Word → Bool} {y : Word} (hr : ∀ r ∈ dst :: b.regs, r.Valid)
    (hg : supports s.platform.groups g = true) (hx : s.reg dst = some x) (hy : b.value64 s = .ok y) (hc : cond x y = true ↔ p) :
    BranchesWith s (branch64 g cond dst b off s) p (offDisplacement off) :=
  .of_ite hc (branch64_eq_next.mpr ⟨permit_of hr hg, x, y, hx, hy, rfl⟩)

theorem branch32_answers {cond : Word32 → Word32 → Bool} {y : Word32} (hr : ∀ r ∈ dst :: b.regs, r.Valid)
    (hg : supports s.platform.groups g = true) (hx : s.reg dst = some x) (hy : b.value32 s = .ok y)
    (hc : cond (low32 x) y = true ↔ p) : BranchesWith s (branch32 g cond dst b off s) p (offDisplacement off) :=
  .of_ite hc (branch32_eq_next.mpr ⟨permit_of hr hg, x, y, hx, hy, rfl⟩)

end

/-! ### The conditions -/

/-- The model's test behind a code, the one that `exec` passes to `branch32` and `branch64`. -/
def CondCode.test {n : Nat} : CondCode → BitVec n → BitVec n → Bool
  | .eq => condEq
  | .gt => condGt
  | .ge => condGe
  | .set => condSet
  | .ne => condNe
  | .sgt => condSgt
  | .sge => condSge
  | .lt => condLt
  | .le => condLe
  | .slt => condSlt
  | .sle => condSle

section
variable (c : CondCode) (dst src : Reg) (imm : Imm) (off : Off) (s : State)

theorem CondCode.exec_k64 : exec (c.k64 dst imm off) s = branch64 .base64 c.test dst (.k imm) off s := by cases c <;> rfl

theorem CondCode.exec_x64 : exec (c.x64 dst src off) s = branch64 .base64 c.test dst (.x src) off s := by cases c <;> rfl

theorem CondCode.exec_k32 : exec (c.k32 dst imm off) s = branch32 .base32 c.test dst (.k imm) off s := by cases c <;> rfl

theorem CondCode.exec_x32 : exec (c.x32 dst src off) s = branch32 .base32 c.test dst (.x src) off s := by cases c <;> rfl

end

section
variable {n : Nat} (a b : BitVec n)

/-- Two bit vectors have a common 1 bit exactly where their conjunction is not zero. -/
theorem and_ne_zero_iff : a &&& b ≠ 0 ↔ ∃ k < n, a.getLsbD k = true ∧ b.getLsbD k = true := by
  constructor
  · contrapose!
    intro hapart
    exact BitVec.eq_of_getLsbD_eq fun k hk => by simpa using hapart k hk
  · rintro ⟨k, -, ha, hb⟩ hzero
    have hbit : (a &&& b).getLsbD k = false := hzero ▸ BitVec.getLsbD_zero
    simp [ha, hb] at hbit

/-- The model's test decides the condition (43_jump.md R285): it is the comparison that the condition states, but for JSET, whose common
bit the model finds by a conjunction. -/
theorem CondCode.test_eq_true_iff (c : CondCode) : c.test a b = true ↔ c.Holds a b := by
  cases c with
  | set => exact decide_eq_true_iff.trans (and_ne_zero_iff a b)
  | eq | gt | ge | ne | sgt | sge | lt | le | slt | sle => exact decide_eq_true_iff

end

/-! ### The results of the jumps -/

/-- Settles O23. JA is of base32, which every platform supports, and makes no further check. -/
theorem jumpAlwaysResults : Obligations.JumpAlwaysResults := fun _ =>
  ⟨fun off => jumpAlways_answers (supports_base32 _) (offDisplacement off),
    fun imm => jumpAlways_answers (supports_base32 _) (immDisplacement imm)⟩

section
variable {c : CondCode} {dst src : Reg} {off : Off} {s : State} {x y : Word}

/-- The immediate is sign-extended (43_jump.md R282). -/
theorem CondCode.k64_answers (hd : dst.Valid) (hg : supports s.platform.groups .base64 = true) (hx : s.reg dst = some x) (imm : Imm) :
    BranchesWith s (exec (c.k64 dst imm off) s) (c.Holds x (imm.signExtend 64)) off.toInt := by
  rw [c.exec_k64]
  exact branch64_answers (forall_mem_regs_k hd) hg hx rfl (c.test_eq_true_iff ..)

theorem CondCode.x64_answers (hd : dst.Valid) (hg : supports s.platform.groups .base64 = true) (hx : s.reg dst = some x)
    (hs : src.Valid) (hy : s.reg src = some y) : BranchesWith s (exec (c.x64 dst src off) s) (c.Holds x y) off.toInt := by
  rw [c.exec_x64]
  exact branch64_answers (forall_mem_regs_x hd hs) hg hx (value64_x hy) (c.test_eq_true_iff ..)

/-- The immediate is taken as its 32 bits (43_jump.md R282). -/
theorem CondCode.k32_answers (hd : dst.Valid) (hx : s.reg dst = some x) (imm : Imm) :
    BranchesWith s (exec (c.k32 dst imm off) s) (c.Holds (x.setWidth 32) imm) off.toInt := by
  rw [c.exec_k32]
  exact branch32_answers (forall_mem_regs_k hd) (supports_base32 _) hx rfl (c.test_eq_true_iff ..)

theorem CondCode.x32_answers (hd : dst.Valid) (hx : s.reg dst = some x) (hs : src.Valid) (hy : s.reg src = some y) :
    BranchesWith s (exec (c.x32 dst src off) s) (c.Holds (x.setWidth 32) (y.setWidth 32)) off.toInt := by
  rw [c.exec_x32]
  exact branch32_answers (forall_mem_regs_x hd hs) (supports_base32 _) hx (value32_x hy) (c.test_eq_true_iff ..)

end

/-- Settles O21. A form is a conditional jump at width 64 by its code's test, and the test decides the condition. -/
theorem branchResults64 : Obligations.BranchResults64 := fun _ _ _ _ _ hd hg hx =>
  ⟨CondCode.k64_answers hd hg hx, fun _ _ hs hy => CondCode.x64_answers hd hg hx hs hy⟩

/-- Settles O22. The same at width 32, of the low halves of the registers. -/
theorem branchResults32 : Obligations.BranchResults32 := fun _ _ _ _ _ hd hx =>
  ⟨CondCode.k32_answers hd hx, fun _ _ hs hy => CondCode.x32_answers hd hx hs hy⟩

end Sys2Proof.Machine

/-! SUPPORT. Calls and EXIT (44_call_exit.md R340 to R346): what a helper call, a program-local call and EXIT do to each register, to each
byte, and to the call stack with the record of the stacks in use; and from that last one the two invariants of the call stack. -/

namespace Sys2Proof.Machine

/-! ### The registers that a call or a return replaces -/

/-- The argument registers of the calling convention, by number (44_call_exit.md R345). -/
theorem mem_arguments {r : Reg} (h1 : 1 ≤ r.toNat) (h5 : r.toNat ≤ 5) : r ∈ ([1, 2, 3, 4, 5] : List Reg) := by
  revert r
  decide

theorem ne_zero_and_not_mem_arguments {r : Reg} (h : 6 ≤ r.toNat) : r ≠ 0 ∧ r ∉ ([1, 2, 3, 4, 5] : List Reg) := by
  revert r
  decide

/-- The registers that a call preserves, by number (44_call_exit.md R345). -/
theorem mem_preserved {r : Reg} (h6 : 6 ≤ r.toNat) (h10 : r.toNat ≤ 10) : r ∈ ([6, 7, 8, 9, 10] : List Reg) := by
  revert r
  decide

theorem not_mem_preserved {r : Reg} (h : r.toNat ≤ 5) : r ∉ ([6, 7, 8, 9, 10] : List Reg) := by
  revert r
  decide

section
variable (s : State) (regs : Vector (Option Word) 11)

/-- What a register holds after one is replaced, whatever registers it is replaced in. -/
theorem reg_setRegs_putReg_in (r q : Reg) (v : Option Word) :
    (s.setRegs (putReg regs r v)).reg q = if q = r ∧ r.toNat < 11 then v else (s.setRegs regs).reg q :=
  reg_setRegs_putReg (s.setRegs regs) r q v

/-- Dropping the arguments takes the values of r1 to r5 (44_call_exit.md R344, R345). -/
theorem reg_setRegs_dropArguments (r : Reg) :
    (s.setRegs (dropArguments regs)).reg r = if r ∈ ([1, 2, 3, 4, 5] : List Reg) then none else (s.setRegs regs).reg r := by
  split
  case isTrue h =>
    simp only [List.mem_cons, List.not_mem_nil, or_false] at h
    obtain rfl | rfl | rfl | rfl | rfl := h <;> simp [dropArguments, reg_setRegs_putReg_in]
  case isFalse h =>
    simp only [List.mem_cons, List.not_mem_nil, or_false, not_or] at h
    simp only [dropArguments, reg_setRegs_putReg_of_ne, ne_eq, h, not_false_eq_true]

/-- A frame of linux puts back what it holds into r6 to r10 and takes the values of r1 to r5 (44_call_exit.md R343, R345). -/
theorem reg_setRegs_restore_linux (ret : Int) (r6 r7 r8 r9 r10 : Option Word) :
    let t := s.setRegs ((Frame.linux ret r6 r7 r8 r9 r10).restore regs)
    (∀ r ∈ ([1, 2, 3, 4, 5] : List Reg), t.reg r = none) ∧
      t.reg 6 = r6 ∧ t.reg 7 = r7 ∧ t.reg 8 = r8 ∧ t.reg 9 = r9 ∧ t.reg 10 = r10 := by
  refine ⟨fun r hr => ?arguments, ?_, ?_, ?_, ?_, ?_⟩
  case arguments =>
    have hdropped := reg_setRegs_dropArguments s regs r
    rw [if_pos hr] at hdropped
    rw [← hdropped]
    simp only [List.mem_cons, List.not_mem_nil, or_false] at hr
    obtain rfl | rfl | rfl | rfl | rfl := hr <;> simp [Frame.restore, reg_setRegs_putReg_in]
  all_goals simp [Frame.restore, reg_setRegs_putReg_in]

end

/-! ### What a helper does to the registers -/

section
variable (s : State) (x : Word) (named : List (Fin 11 × Word)) (writes : List Host.Cell)

/-- Under linux a helper leaves its result in r0, no value in r1 to r5, and every other register as it was (44_call_exit.md R344). -/
theorem reg_helperReturn_linux (hl : s.platform.callConv = .linux) :
    (s.helperReturn x named writes).reg 0 = some x ∧
      (∀ r : Reg, 1 ≤ r.toNat → r.toNat ≤ 5 → (s.helperReturn x named writes).reg r = none) ∧
      ∀ r : Reg, 6 ≤ r.toNat → (s.helperReturn x named writes).reg r = s.reg r := by
  have hregs (r : Reg) : (s.helperReturn x named writes).reg r =
      if r ∈ ([1, 2, 3, 4, 5] : List Reg) then none else if r = 0 then some x else s.reg r := by
    simp [State.helperReturn, hl, helperRegs, reg_setRegs_dropArguments, reg_setRegs_putReg]
  refine ⟨by simp [hregs], fun r h1 h5 => ?_, fun r h6 => ?_⟩
  · rw [hregs, if_pos (mem_arguments h1 h5)]
  · obtain ⟨hzero, hargument⟩ := ne_zero_and_not_mem_arguments h6
    rw [hregs, if_neg hargument, if_neg hzero]

end

/-- One more register that a helper's description names is the last one (44_call_exit.md R344). -/
theorem namedOnly_concat (named : List (Fin 11 × Word)) (e : Fin 11 × Word) :
    namedOnly (named ++ [e]) = (namedOnly named).set e.1.val (some e.2) := by
  simp [namedOnly, List.foldl_append]

/-- What a description names later for other registers does not matter to a register. -/
theorem namedOnly_append_get {before after : List (Fin 11 × Word)} {r : Fin 11} (h : ∀ e ∈ after, e.1 ≠ r) :
    (namedOnly (before ++ after))[r.val] = (namedOnly before)[r.val] := by
  induction after using List.reverseRecOn with
  | nil => rw [List.append_nil]
  | append_singleton after e ih =>
    have hne : e.1.val ≠ r.val := fun he => h e (by simp) (Fin.ext he)
    have hcut : (namedOnly (before ++ (after ++ [e])))[r.val] = (namedOnly (before ++ after))[r.val] := by
      simp only [← List.append_assoc, namedOnly_concat, Vector.getElem_set_ne _ _ hne]
    exact hcut.trans (ih fun d hd => h d (List.mem_append_left _ hd))

/-- A register that exists holds what is listed for its number. -/
theorem State.reg_ofNat (s : State) (r : Fin 11) : s.reg (BitVec.ofNat 4 r) = s.regs[r.val] := by
  have hr : (BitVec.ofNat 4 r.val).toNat = r.val := by
    rw [BitVec.toNat_ofNat, Nat.mod_eq_of_lt (by omega)]
  simp [State.reg, hr]

section
variable (s : State) (x : Word) (named : List (Fin 11 × Word)) (writes : List Host.Cell)

/-- Under isa_only the registers after a helper are those that its description names (44_call_exit.md R344). -/
theorem reg_helperReturn_isaOnly (hi : s.platform.callConv = .isaOnly) (r : Fin 11) :
    (s.helperReturn x named writes).reg (BitVec.ofNat 4 r) = (namedOnly named)[r.val] := by
  simp only [State.reg_ofNat, State.helperReturn_regs, hi, helperRegs]

end

/-! ### What a helper does to memory -/

theorem Memory.storeCells_append (m : Memory) (cs ds : List Host.Cell) :
    Memory.storeCells m (cs ++ ds) = Memory.storeCells (Memory.storeCells m cs) ds := by
  induction cs generalizing m with
  | nil => rfl
  | cons c cs ih => exact ih _

/-- The last of several stores to an address is the one that is read. -/
theorem Memory.get?_storeCells_last (m : Memory) (before after : List Host.Cell) (k : Nat) (b : Byte) (h : ∀ c ∈ after, c.1 ≠ k) :
    Memory.get? (Memory.storeCells m (before ++ (k, b) :: after)) k = some b := by
  rw [Memory.storeCells_append, Memory.storeCells, Memory.get?_storeCells_outside _ _ _ h, Memory.get?_set_self]

section
variable (s : State) (x : Word) (named : List (Fin 11 × Word)) {writes before after : List Host.Cell} {a : Word} {b : Byte}

/-- A byte that no store of the helper is made to reads as before. -/
theorem byteAt_helperReturn_outside (h : (∀ c ∈ writes, c.1 ≠ a.toNat) ∨ helperByte s.platform a.toNat = false) :
    byteAt (s.helperReturn x named writes) a = byteAt s a := by
  rw [byteAt, State.helperReturn_mem, Memory.get?_storeCells_outside, ← byteAt]
  intro c hc heq
  obtain ⟨hmem, hmade⟩ := List.mem_filter.mp hc
  obtain hnone | hdropped := h
  · exact hnone c hmem heq
  · exact Bool.false_ne_true (hdropped.symm.trans (heq ▸ hmade))

/-- A byte that the helper may store to holds the last value stored. -/
theorem byteAt_helperReturn_last (h : helperByte s.platform a.toNat = true) (hafter : ∀ c ∈ after, c.1 ≠ a.toNat) :
    byteAt (s.helperReturn x named (before ++ (a.toNat, b) :: after)) a = b := by
  rw [byteAt, State.helperReturn_mem, List.filter_append, List.filter_cons_of_pos (by exact h),
    Memory.get?_storeCells_last _ _ _ _ _ fun c hc => hafter c (List.mem_of_mem_filter hc), Option.getD_some]

/-- Under linux a helper may store to the bytes that the program may write (44_call_exit.md R344, log 26). -/
theorem helperByte_linux_iff {p : Platform} (hl : p.callConv = .linux) : helperByte p a.toNat = true ↔ Admitted p a 1 .write := by
  simp [helperByte, hl, a.isLt, admits_iff]

theorem helperByte_linux_of_not_admitted {p : Platform} (hl : p.callConv = .linux) (ha : ¬ Admitted p a 1 .write) :
    helperByte p a.toNat = false :=
  Bool.eq_false_iff.mpr (mt (helperByte_linux_iff hl).mp ha)

/-- Under isa_only it may store to every byte (44_call_exit.md R344, log 26). -/
theorem helperByte_isaOnly {p : Platform} (hi : p.callConv = .isaOnly) : helperByte p a.toNat = true := by
  simp [helperByte, hi, a.isLt]

end

/-! ### The helper calls -/

/-- CALL and EXIT pass the checks before execution in every state: base32 is always supported, and they name no register. -/
theorem permit_base32 (s : State) : permit s .base32 [] = .ok () := permit_of nofun (supports_base32 _)

section
variable {s : State} {btf : Bool} {imm : Imm}

/-- A call by static id and one by BTF id are the same helper call, with the table of their ids (44_call_exit.md R340, R342). -/
theorem exec_helperCall (btf : Bool) (imm : Imm) (s : State) :
    exec (if btf then .callKJmpBtf imm else .callKJmpHelper imm) s =
      helperCall .base32 (if btf then s.platform.helpersByBtf else s.platform.helpersById) imm s := by
  cases btf <;> rfl

/-- What the helper answers is what the call answers, one slot further. -/
theorem exec_helperCall_eq_next {t : State}
    (h : callHelper s (if btf then s.platform.helpersByBtf else s.platform.helpersById) imm = .ok t) :
    exec (if btf then .callKJmpBtf imm else .callKJmpHelper imm) s = .next t.advance :=
  (exec_helperCall ..).trans (helperCall_eq_next.mpr ⟨permit_base32 s, t, h, rfl⟩)

theorem exec_helperCall_eq_fault {f : Fault}
    (h : callHelper s (if btf then s.platform.helpersByBtf else s.platform.helpersById) imm = .error f) :
    exec (if btf then .callKJmpBtf imm else .callKJmpHelper imm) s = .fault f := by
  rw [exec_helperCall, helperCall, permit_base32, h]
  rfl

end

/-- Settles O24. The call takes the listed act; the filter of its stores is that of the bytes that the program may write. -/
theorem helperCallLinux : Obligations.HelperCallLinux := by
  intro btf imm s x named writes rest hl hid hacts
  have hcall := exec_helperCall_eq_next (callHelper_eq_ok.mpr ⟨hid, .inl ⟨x, named, writes, rest, hacts, rfl⟩⟩)
  obtain ⟨hresult, harguments, hkept⟩ := reg_helperReturn_linux (s.setHelperActs rest) x named writes hl
  refine ⟨_, hcall, hresult, harguments, hkept, rfl, rfl, rfl, rfl, rfl, rfl, rfl, fun a ha => ?outside, ?last⟩
  case outside =>
    exact byteAt_helperReturn_outside (s.setHelperActs rest) x named (ha.imp_right (helperByte_linux_of_not_admitted hl))
  case last =>
    rintro a b before after rfl hafter hadmitted
    exact byteAt_helperReturn_last (s.setHelperActs rest) x named ((helperByte_linux_iff hl).mpr hadmitted) hafter

/-- Settles O25. The call takes the listed act; what is named or stored later for something else does not matter, and no store is
dropped. -/
theorem helperCallIsaOnly : Obligations.HelperCallIsaOnly := by
  intro btf imm s x named writes rest hi hid hacts
  have hcall := exec_helperCall_eq_next (callHelper_eq_ok.mpr ⟨hid, .inl ⟨x, named, writes, rest, hacts, rfl⟩⟩)
  have hregs := reg_helperReturn_isaOnly (s.setHelperActs rest) x named writes hi
  refine ⟨_, hcall, ?named, fun r hr => (hregs r).trans ?unnamed, rfl, rfl, rfl, rfl, rfl, rfl, rfl, fun a ha => ?outside, ?last⟩
  case named =>
    rintro r v before after rfl hafter
    refine (hregs r).trans ?_
    rw [List.append_cons, namedOnly_append_get hafter]
    simp [namedOnly_concat]
  case unnamed =>
    rw [← List.nil_append named, namedOnly_append_get hr]
    simp [namedOnly]
  case outside => exact byteAt_helperReturn_outside (s.setHelperActs rest) x named (.inl ha)
  case last =>
    rintro a b before after rfl hafter
    exact byteAt_helperReturn_last (s.setHelperActs rest) x named (helperByte_isaOnly hi) hafter

/-- Settles O26. Whatever the free values are, they stand where those of an act would, so that the same holds of the registers and of the
bytes that a helper may not store to. -/
theorem helperCallUnlisted : Obligations.HelperCallUnlisted := by
  intro btf imm s hid hacts
  have hcall := exec_helperCall_eq_next (callHelper_eq_ok.mpr ⟨hid, .inr ⟨hacts, rfl⟩⟩)
  generalize Config.helperResult s.freeIdx = x, Config.helperNamed s.freeIdx = named, Config.helperWrites s.freeIdx = writes at hcall
  refine ⟨_, hcall, rfl, rfl, rfl, rfl, rfl, rfl, fun hl => ?_⟩
  obtain ⟨hresult, harguments, hkept⟩ := reg_helperReturn_linux (s.setFreeIdx (s.freeIdx + 1)) x named writes hl
  refine ⟨⟨x, hresult⟩, harguments, hkept, fun a ha => ?_⟩
  exact byteAt_helperReturn_outside (s.setFreeIdx _) x named (.inr (helperByte_linux_of_not_admitted hl ha))

/-- Settles O27. The id is looked up before the act is taken. -/
theorem helperCallFaults : Obligations.HelperCallFaults := by
  refine fun btf imm s => ⟨fun hid => exec_helperCall_eq_fault ?_, fun rest hid hacts => exec_helperCall_eq_fault ?_⟩
  · simp [callHelper, hid]
  · simp [callHelper, hid, hacts]

/-! ### The parts of a program-local call -/

section
variable {s : State}

/-- There is room for one more frame where the bound, if there is one, is not reached (44_call_exit.md R346). -/
theorem State.mayCall_iff : s.mayCall = true ↔ ∀ bound, s.platform.maxCallDepth = some bound → s.calls.length < bound := by
  unfold State.mayCall
  cases s.platform.maxCallDepth <;> simp

theorem State.frame_isaOnly (hi : s.platform.callConv = .isaOnly) (ret : Int) : s.frame ret = .isaOnly ret := by
  simp only [State.frame, hi]

theorem State.frame_linux (hl : s.platform.callConv = .linux) (ret : Int) :
    s.frame ret = .linux ret (s.reg 6) (s.reg 7) (s.reg 8) (s.reg 9) (s.reg 10) := by
  simp only [State.frame, hl]

/-- The frame holds the return slot, under both conventions (44_call_exit.md R341). -/
@[simp] theorem State.frame_ret (s : State) (ret : Int) : (s.frame ret).ret = ret := by
  cases h : s.platform.callConv with
  | linux => rw [State.frame_linux h, Frame.ret]
  | isaOnly => rw [State.frame_isaOnly h, Frame.ret]

/-- The frame that a call pushes is one of the calling convention (44_call_exit.md R341). -/
theorem State.frame_follows (s : State) (ret : Int) : (s.frame ret).Follows s.platform.callConv := by
  cases h : s.platform.callConv with
  | linux =>
    rw [State.frame_linux h]
    trivial
  | isaOnly =>
    rw [State.frame_isaOnly h]
    trivial

/-- Under isa_only a call touches no register and hands out no stack. -/
theorem State.enterCallee_isaOnly (hi : s.platform.callConv = .isaOnly) : s.enterCallee = s := by
  simp only [State.enterCallee, hi]

/-- Under linux the callee's stack is in use from the call on (44_call_exit.md R345, log 29). -/
theorem State.enterCallee_stackTops_linux (hl : s.platform.callConv = .linux) :
    s.enterCallee.stackTops = calleeFramePointer s :: s.stackTops := by
  simp only [State.enterCallee, hl, State.setFreeIdx_stackTops, State.setStackTops_stackTops]

/-- Under linux a callee is given no values in r6 to r9, and its frame pointer in r10 (44_call_exit.md R345). -/
theorem State.reg_enterCallee_linux (hl : s.platform.callConv = .linux) :
    (∀ r : Reg, 6 ≤ r.toNat → r.toNat ≤ 9 → s.enterCallee.reg r = none) ∧
      s.enterCallee.reg 10 = some (calleeFramePointer s) := by
  have hunset {r : Reg} (h6 : 6 ≤ r.toNat) (h9 : r.toNat ≤ 9) : r = 6 ∨ r = 7 ∨ r = 8 ∨ r = 9 := by
    revert r
    decide
  refine ⟨fun r h6 h9 => ?_, ?_⟩
  · obtain rfl | rfl | rfl | rfl := hunset h6 h9 <;> simp [State.enterCallee, hl, reg_setRegs_putReg_in]
  · simp [State.enterCallee, hl, reg_setRegs_putReg_in]

/-- All that a program-local call checks is the depth bound (44_call_exit.md R341). -/
theorem exec_callKJmpLocal_eq_next {t : State} {imm : Imm} :
    exec (.callKJmpLocal imm) s = .next t ↔
      s.mayCall = true ∧ t = (s.enterCallee.setCalls (s.frame (s.pc + 1) :: s.calls)).jump (immDisplacement imm) :=
  localCall_eq_next.trans ((and_iff_right (permit_base32 s)).trans callLocal_eq_ok)

/-- EXIT makes no check before it returns or ends the run (44_call_exit.md R343). -/
theorem exec_exitKJmp_eq_next {t : State} : exec .exitKJmp s = .next t ↔ returnOrEnd s = .ok t :=
  exitCall_eq_next.trans (and_iff_right (permit_base32 s))

/-- EXIT with a frame on the call stack returns by it (44_call_exit.md R343). -/
theorem exec_exitKJmp_of_cons {f : Frame} {rest : List Frame} (h : s.calls = f :: rest) :
    exec .exitKJmp s =
      .next ((((s.setRegs (f.restore s.regs)).setCalls rest).setStackTops (f.leave s.stackTops)).setPc f.ret) :=
  exec_exitKJmp_eq_next.mpr (returnOrEnd_eq_ok.mpr (.inr ⟨f, rest, h, rfl⟩))

/-- Under linux the end of the run reads its result (10_state.md R54). -/
theorem endRun_linux (hl : s.platform.callConv = .linux) :
    endRun s = readReg s 0 >>= fun v => pure (s.setStatus (.ended (some v))) := by
  simp only [endRun, hl]

/-- EXIT with no active frame ends the run (10_state.md R54). -/
theorem exec_exitKJmp_of_nil (h : s.calls = []) : exec .exitKJmp s = outcome (endRun s) := by
  have hexec : exec .exitKJmp s = outcome (permit s .base32 [] >>= fun _ => returnOrEnd s) := rfl
  rw [hexec, permit_base32, returnOrEnd, h]
  rfl

end

/-! ### The results of a program-local call and of EXIT -/

/-- Settles O28. The next state is written out, and what a claim asks of it is known of its parts: the frame, the callee's registers and
its frame pointer. -/
theorem localCallResults : Obligations.LocalCallResults := by
  intro imm s hbound
  refine ⟨_, exec_callKJmpLocal_eq_next.mpr ⟨State.mayCall_iff.mpr hbound, rfl⟩, ?pc, ?bytes, ?_, ?_, ?_, ?_, ?_, ?isaOnly, ?linux⟩
  case pc => simp [immDisplacement]
  case bytes => exact fun a => by simp [byteAt]
  case isaOnly =>
    intro hi
    rw [State.enterCallee_isaOnly hi, State.frame_isaOnly hi]
    exact ⟨fun _ => rfl, rfl, rfl⟩
  case linux =>
    intro hl
    obtain ⟨hnone, htop⟩ := State.reg_enterCallee_linux hl
    refine ⟨⟨calleeFramePointer s, htop, State.enterCallee_stackTops_linux hl, calleeFramePointer_fresh, calleeFramePointer_private,
      calleeFramePointer_apart, fun v => calleeFramePointer_listed⟩, ?_, fun r hr => s.reg_enterCallee (not_mem_preserved hr), hnone⟩
    rw [← State.frame_linux hl]
    rfl
  all_goals simp

/-- Settles O30. The frame decides what the return puts back, and only registers, `pc` and the record of the active calls change. -/
theorem exitReturns : Obligations.ExitReturns := by
  refine fun s rest ret => ⟨fun h => ?isaOnly, fun r6 r7 r8 r9 r10 h => ?linux⟩
  case isaOnly => exact ⟨_, exec_exitKJmp_of_cons h, rfl, rfl, fun _ => rfl, fun _ => rfl, rfl, rfl⟩
  case linux =>
    obtain ⟨harguments, hpreserved⟩ := reg_setRegs_restore_linux s s.regs ret r6 r7 r8 r9 r10
    exact ⟨_, exec_exitKJmp_of_cons h, rfl, rfl, fun _ => rfl, rfl, rfl, reg_setRegs_restore s _ (by decide),
      fun r h1 h5 => harguments r (mem_arguments h1 h5), hpreserved⟩

/-- Settles O31. The end of the run reads its result, if it has one, and sets the status alone. -/
theorem exitEndsRun : Obligations.ExitEndsRun := by
  intro s hcalls
  have hkeeps (v : Option Word) : SameRegs s (s.setStatus (.ended v)) ∧ SameBytes s (s.setStatus (.ended v)) ∧
      (s.setStatus (.ended v)).pc = s.pc ∧ (s.setStatus (.ended v)).calls = [] ∧ (s.setStatus (.ended v)).stackTops = s.stackTops :=
    ⟨fun _ => rfl, fun _ => rfl, rfl, hcalls, rfl⟩
  rw [exec_exitKJmp_of_nil hcalls]
  refine ⟨fun v hl hv => ?result, fun hl hnone => ?absent, fun hi => ?isaOnly⟩
  case result => exact ⟨_, outcome_eq_next.mpr (endRun_eq_ok.mpr (.inr ⟨hl, v, hv, rfl⟩)), rfl, hkeeps _⟩
  case absent =>
    rw [endRun_linux hl, readReg_eq_error.mpr ⟨hnone, rfl⟩]
    rfl
  case isaOnly => exact ⟨_, outcome_eq_next.mpr (endRun_eq_ok.mpr (.inl ⟨hi, rfl⟩)), rfl, hkeeps _⟩

/-- Settles O32. The EXIT finds the frame that the call has pushed. -/
theorem callThenExitRestores : Obligations.CallThenExitRestores := by
  intro imm s t u v hcall hsame hexit
  obtain ⟨-, rfl⟩ := exec_callKJmpLocal_eq_next.mp hcall
  have hreturn := exec_exitKJmp_of_cons (s := u) hsame
  obtain rfl := Host.Outcome.next.inj (hreturn.symm.trans hexit)
  refine ⟨s.frame_ret _, rfl, fun hl r h6 h10 => ?preserved, fun hi => ?isaOnly, fun htops => ?tops⟩
  case preserved =>
    obtain ⟨-, hr6, hr7, hr8, hr9, hr10⟩ :=
      reg_setRegs_restore_linux u u.regs (s.pc + 1) (s.reg 6) (s.reg 7) (s.reg 8) (s.reg 9) (s.reg 10)
    have hmem := mem_preserved h6 h10
    simp only [List.mem_cons, List.not_mem_nil, or_false] at hmem
    rw [State.frame_linux hl]
    obtain rfl | rfl | rfl | rfl | rfl := hmem
    exacts [hr6, hr7, hr8, hr9, hr10]
  case isaOnly =>
    rw [State.frame_isaOnly hi]
    exact fun _ => rfl
  case tops =>
    have hcallee : u.stackTops = s.enterCallee.stackTops := htops
    cases hconv : s.platform.callConv with
    | linux => simp [State.frame_linux hconv, Frame.leave, hcallee, State.enterCallee_stackTops_linux hconv]
    | isaOnly => simp [State.frame_isaOnly hconv, Frame.leave, hcallee, State.enterCallee_isaOnly hconv]

/-! ### The stack of a callee -/

/-- Every access within the stack below a fresh frame pointer is admitted (44_call_exit.md R345, 20_memory.md R66). -/
theorem FreshTop.admitted {s : State} {top addr : Word} {n : Nat} {k : MemKind} (h : FreshTop s top) (hk : k ≠ .misaligned)
    (hhi : addr.toNat + n ≤ top.toNat) (hlo : top.toNat ≤ addr.toNat + s.platform.stackSize) : Admitted s.platform addr n k := by
  obtain ⟨-, r, hr, -, hread, hwrite, hbase, hend⟩ := h
  have hallows : Allows r k := by
    cases k with
    | read => exact hread
    | write => exact hwrite
    | atomic => exact ⟨hread, hwrite⟩
    | misaligned => exact absurd rfl hk
  have htop := top.isLt
  exact ⟨by omega, r, hr, by omega, by omega, hallows⟩

/-- Each byte of that stack lies in a region that is not shared (44_call_exit.md R345, 20_memory.md R72). -/
theorem FreshTop.privateByte {s : State} {top a : Word} (h : FreshTop s top) (ha : StackByte s.platform top a) :
    PrivateByte s.platform a := by
  obtain ⟨-, r, hr, hshared, -, -, hbase, hend⟩ := h
  obtain ⟨hhi, hlo⟩ := ha
  exact ⟨r, hr, hshared, by omega, by omega⟩

/-- Settles O33. The callee's frame pointer is a fresh one, and that is all that its stack has to be. -/
theorem calleeStackUsable : Obligations.CalleeStackUsable := by
  intro imm s t hl hfresh hcall
  obtain ⟨-, rfl⟩ := exec_callKJmpLocal_eq_next.mp hcall
  have htop : FreshTop s (calleeFramePointer s) := calleeFramePointer_fresh hfresh
  have hplatform := s.enterCallee_platform
  have ⟨⟨⟨_, hapart⟩, hprivate⟩, _⟩ := htop
  refine ⟨calleeFramePointer s, (State.reg_enterCallee_linux hl).2, hplatform, State.enterCallee_stackTops_linux hl, ?access, ?bytes⟩
  all_goals simp only [State.jump_platform, State.setCalls_platform, hplatform]
  case access => exact fun _ _ _ => htop.admitted
  case bytes => exact fun a ha => ⟨htop.privateByte ha, hprivate a ha, hapart a ha⟩

/-! ### What a step does to the call stack -/

/-- `CallsChange s t`: the call stack and the record of the stacks in use of `t` are those of `s`, or those after a program-local call
below the depth bound, or those after the return by the newest frame (44_call_exit.md R341, R343). -/
inductive CallsChange (s t : State) : Prop
  | kept (hcalls : t.calls = s.calls) (htops : t.stackTops = s.stackTops)
  | pushed (hmay : s.mayCall = true) (hcalls : t.calls = s.frame (s.pc + 1) :: s.calls) (htops : t.stackTops = s.enterCallee.stackTops)
  | popped (f : Frame) (hcalls : s.calls = f :: t.calls) (htops : t.stackTops = f.leave s.stackTops)

/-- No instruction does anything else to them. -/
theorem exec_callsChange {i : Instr} {s t : State} (h : exec i s = .next t) : CallsChange s t := by
  by_cases hlocal : ∃ imm, i = .callKJmpLocal imm
  · obtain ⟨imm, rfl⟩ := hlocal
    obtain ⟨hmay, rfl⟩ := exec_callKJmpLocal_eq_next.mp h
    exact .pushed hmay rfl rfl
  by_cases hexit : i = .exitKJmp
  · subst hexit
    obtain ⟨-, hend⟩ | ⟨f, rest, hcalls, rfl⟩ := returnOrEnd_eq_ok.mp (exec_exitKJmp_eq_next.mp h)
    · obtain ⟨-, rfl⟩ | ⟨-, _, -, rfl⟩ := endRun_eq_ok.mp hend
      · exact .kept rfl rfl
      · exact .kept rfl rfl
    · exact .popped f hcalls rfl
  · obtain ⟨-, -, -, -, hkept, -⟩ := restFrame i s t h
    obtain ⟨hcalls, htops⟩ := hkept hexit fun imm hi => hlocal ⟨imm, hi⟩
    exact .kept hcalls htops

/-- Each change keeps the call stack legal: what is pushed follows the convention and is pushed below the bound. -/
theorem CallsChange.callsLegal {s t : State} (h : CallsChange s t) (hp : t.platform = s.platform) (hs : CallsLegal s) :
    CallsLegal t := by
  obtain ⟨hfollows, hdepth⟩ := hs
  rw [CallsLegal, hp]
  cases h with
  | kept hcalls =>
    rw [hcalls]
    exact ⟨hfollows, hdepth⟩
  | pushed hmay hcalls =>
    rw [hcalls]
    exact ⟨List.forall_mem_cons.mpr ⟨s.frame_follows _, hfollows⟩, State.mayCall_iff.mp hmay⟩
  | popped f hcalls =>
    rw [hcalls] at hfollows hdepth
    exact ⟨fun g hg => hfollows g (List.mem_cons_of_mem f hg), fun bound hb => Nat.le_of_succ_le (hdepth bound hb)⟩

/-- Each change keeps the stacks in use apart where there is room for one more: the callee's is apart from them. -/
theorem CallsChange.stacksApart {s t : State} (h : CallsChange s t) (hp : t.platform = s.platform) (hs : StacksApart s)
    (hroom : ∃ v, ApartTop s v) : StacksApart t := by
  rw [StacksApart, hp]
  cases h with
  | kept _ htops =>
    rw [htops]
    exact hs
  | pushed _ _ htops =>
    rw [htops]
    cases hconv : s.platform.callConv with
    | linux =>
      obtain ⟨-, hapart⟩ := calleeFramePointer_apart hroom
      rw [State.enterCallee_stackTops_linux hconv]
      exact List.pairwise_cons.mpr ⟨fun u hu a ha => hapart a ha u hu, hs⟩
    | isaOnly =>
      rw [State.enterCallee_isaOnly hconv]
      exact hs
  | popped f _ htops =>
    rw [htops]
    cases f with
    | isaOnly => exact hs
    | linux => exact List.Pairwise.tail hs

/-- Settles O56. The environment touches no frame, and an instruction makes one of the three changes. -/
theorem stepKeepsCallsLegal : Obligations.StepKeepsCallsLegal := by
  intro s t hs hstep
  obtain ⟨-, rfl⟩ | ⟨-, i, -, hi⟩ := step_eq_next.mp hstep
  · exact hs
  · obtain ⟨-, hplatform, -⟩ := restFrame i _ t hi
    exact (exec_callsChange hi).callsLegal hplatform (by simpa [CallsLegal] using hs)

/-- Settles O34. The environment touches no record of a stack, and what it leaves has the same room for one more. -/
theorem stacksInUseStayApart : Obligations.StacksInUseStayApart := by
  intro s t hs hroom hstep
  obtain ⟨-, rfl⟩ | ⟨-, i, -, hi⟩ := step_eq_next.mp hstep
  · exact hs
  · obtain ⟨-, hplatform, -⟩ := restFrame i _ t hi
    exact (exec_callsChange hi).stacksApart hplatform (by simpa [StacksApart] using hs) (by simpa [ApartTop] using hroom)

end Sys2Proof.Machine

/-! SUPPORT. The loads and stores (45_load_store.md R360 to R376). The word that the model assembles is the number that the bytes denote in
host byte order, and the bytes that it stores are the digits of the value in that order; so the two shared operations answer what the
claims state, and each of the fifteen instructions is one of them. -/

namespace Sys2Proof.Machine

/-! ### Words and bytes in host byte order -/

/-- The word that bytes in storage order make is the number that they denote (20_memory.md R61). -/
theorem assemble_eq_ofNat (e : Endian) (bs : List Byte) : assemble e bs = BitVec.ofNat 64 (hostValue e bs) := by
  cases e with
  | little => exact ofLeBytes_eq_ofNat bs
  | big => rw [assemble, ofLeBytes_eq_ofNat, hostValue_little_reverse]

/-- The value that an access finds, in the terms of the claims (20_memory.md R61). -/
theorem loadValue_eq_ofNat (s : State) (addr : Word) (size : Size) :
    loadValue s addr size = BitVec.ofNat 64 (hostValue s.platform.endian (bytesAt s addr size.bytes)) :=
  assemble_eq_ofNat ..

/-- The bytes of a word in storage order are the digits of its number (20_memory.md R62). -/
theorem disassemble_eq_hostBytes (e : Endian) (n : Nat) (v : Word) : disassemble e n v = hostBytes e n v.toNat := by
  refine List.ext_getElem (by simp [hostBytes]) fun k hk _ => BitVec.eq_of_toNat_eq ?_
  rw [disassemble_getElem, BitVec.extractLsb'_toNat, Nat.shiftRight_eq_div_pow, Nat.pow_mul]
  simp [hostBytes]

/-- Storing a value stores its bytes in storage order, and no other byte (20_memory.md R62). -/
theorem storedBytes_storeValue (s : State) (addr : Word) (size : Size) (v : Word) :
    StoredBytes s (storeValue s addr size v) addr (hostBytes s.platform.endian size.bytes v.toNat) := by
  rw [← disassemble_eq_hostBytes]
  refine ⟨fun k hk => ?inside, fun a ha => ?outside⟩
  case inside =>
    rw [disassemble_getElem]
    exact byteAt_storeValue_inside s addr size v k (by simpa using hk)
  case outside =>
    exact byteAt_storeValue_outside s addr a size v fun k hk => (ha k (by simpa using hk)).symm

/-- Sign extension of the low bits of a number (45_load_store.md R374 to R376). -/
theorem sextLow_ofNat {k : Nat} (hk : k ≤ 64) (m : Nat) :
    sextLow k 64 (BitVec.ofNat 64 m) = BitVec.ofInt 64 (BitVec.ofNat k m).toInt := by
  rw [sextLow_eq_ofInt, BitVec.setWidth_ofNat_of_le hk]

/-! ### Answers of the two shared operations -/

/-- Storing a value and ending at the next slot is the claim's result (45_load_store.md R361). -/
theorem storeResult_storeValue_advance (s : State) (addr : Word) (size : Size) (v : Word) :
    StoreResult s (storeValue s addr size v).advance addr (hostBytes s.platform.endian size.bytes v.toNat) (s.pc + 1) :=
  ⟨fun _ => rfl, storedBytes_storeValue s addr size v, rfl, rfl, rfl, rfl, rfl, rfl, rfl, rfl, rfl⟩

section
variable {s : State} {g : ConfGroup} {size : Size} {dst src : Reg} {off : Off} {base : Word}

/-- A load does not ask that the destination holds a value (45_load_store.md R361). -/
theorem loadInto_answers (ext : Word → Word) (hd : dst.Valid) (hs : src.Valid) (hbase : s.reg src = some base)
    (hg : supports s.platform.groups g = true) (ha : AccessAllowed s.platform (effectiveAddress base off) size.bytes .read) :
    AnswersWith s (loadInto g size ext dst src off s) dst
      (ext (BitVec.ofNat 64 (hostValue s.platform.endian (bytesAt s (effectiveAddress base off) size.bytes)))) := by
  rw [← loadValue_eq_ofNat]
  exact .of_finish hd (loadInto_eq_next.mpr ⟨permit_of (forall_mem_regs_x hd hs) hg, base, hbase, checkAccess_iff.mpr ha, rfl⟩)

/-- The sign-extending loads, by the width of what they extend, all of base32 (45_load_store.md R374 to R376). -/
theorem loadInto_sextLow_answers {k : Nat} (hk : k ≤ 64) (hd : dst.Valid) (hs : src.Valid) (hbase : s.reg src = some base)
    (ha : AccessAllowed s.platform (effectiveAddress base off) size.bytes .read) :
    AnswersWith s (loadInto .base32 size (sextLow k 64) dst src off s) dst
      (BitVec.ofInt 64 (BitVec.ofNat k
        (hostValue s.platform.endian (bytesAt s (effectiveAddress base off) size.bytes))).toInt) := by
  rw [← sextLow_ofNat hk]
  exact loadInto_answers (sextLow k 64) hd hs hbase (supports_base32 _) ha

theorem storeFrom_answers {b : Source} {v : Word} (hr : ∀ r ∈ dst :: b.regs, r.Valid)
    (hg : supports s.platform.groups g = true) (hbase : s.reg dst = some base) (hv : b.value64 s = .ok v)
    (ha : AccessAllowed s.platform (effectiveAddress base off) size.bytes .write) :
    ∃ t, storeFrom g size dst off b s = .next t ∧
      StoreResult s t (effectiveAddress base off) (hostBytes s.platform.endian size.bytes v.toNat) (s.pc + 1) :=
  ⟨_, storeFrom_eq_next.mpr ⟨permit_of hr hg, base, v, hbase, hv, checkAccess_iff.mpr ha, rfl⟩,
    storeResult_storeValue_advance ..⟩

end

/-- The store of an immediate is the shared store (45_load_store.md R361, R366 to R369). -/
theorem exec_storeImm (size : Size) (dst : Reg) (off : Off) (imm : Imm) (s : State) :
    exec (size.storeImm dst off imm) s = storeFrom size.group size dst off (.k imm) s := by
  cases size <;> rfl

/-! ### The results of the loads and stores -/

/-- Settles O35. Each instruction is the shared load of its size, which extends the number that it finds by zeros or by the sign. -/
theorem loadResults : Obligations.LoadResults := by
  intro dst src off s base hd hs hbase
  refine ⟨fun size hg ha => ?zero, loadInto_sextLow_answers (size := .b) (k := 8) (by decide) hd hs hbase,
    loadInto_sextLow_answers (size := .h) (k := 16) (by decide) hd hs hbase,
    loadInto_sextLow_answers (size := .w) (k := 32) (by decide) hd hs hbase⟩
  case zero =>
    rw [exec_load]
    exact loadInto_answers id hd hs hbase hg ha

/-- Settles O36. Each instruction is the shared store of its size, of the sign-extended immediate or of the source register. -/
theorem storeResults : Obligations.StoreResults := by
  intro size dst off s base hd hbase hg ha
  refine ⟨fun imm => ?imm, fun src v hs hv => ?reg⟩
  case imm =>
    rw [exec_storeImm]
    exact storeFrom_answers (forall_mem_regs_k hd) hg hbase rfl ha
  case reg =>
    rw [exec_storeReg]
    exact storeFrom_answers (forall_mem_regs_x hd hs) hg hbase (value64_x hv) ha

end Sys2Proof.Machine

/-! SUPPORT. The atomics (46_atomic.md R390 to R413). Each of the twenty is a read-modify-write of its size, by an operation of Arith or by
the exchange, or it is the compare-and-exchange. Bytes of a size denote less than 256 to the power of their count and hold a number only up
to that; so what the two shared operations store and give back are the numbers of the claims. -/

namespace Sys2Proof.Machine

/-! ### Numbers and bytes of a size -/

/-- The number that `n` bytes denote is below 256^n (20_memory.md R61). -/
theorem hostValue_lt (e : Endian) (bs : List Byte) : hostValue e bs < 256 ^ bs.length := by
  have hlittle (bs : List Byte) : hostValue .little bs < 256 ^ bs.length := by
    induction bs with
    | nil => exact Nat.one_pos
    | cons b bs ih =>
      have hcons : hostValue .little (b :: bs) = b.toNat + 256 * hostValue .little bs := rfl
      have hb := b.isLt
      rw [hcons, List.length_cons, Nat.pow_succ]
      omega
  cases e with
  | little => exact hlittle bs
  | big =>
    rw [← hostValue_little_reverse, ← List.length_reverse]
    exact hlittle bs.reverse

theorem hostValue_bytesAt_lt (e : Endian) (s : State) (addr : Word) (n : Nat) : hostValue e (bytesAt s addr n) < 256 ^ n :=
  Nat.lt_of_lt_of_eq (hostValue_lt ..) (by simp [bytesAt])

/-- Bytes hold a number up to 256 to the power of their count (20_memory.md R62). -/
theorem hostBytes_mod (e : Endian) (n v : Nat) : hostBytes e n (v % 256 ^ n) = hostBytes e n v := by
  refine List.map_congr_left fun k hk => BitVec.eq_of_toNat_eq ?_
  have hk : k < n := List.mem_range.mp hk
  have hdigit {j : Nat} (hj : j < n) : v % 256 ^ n / 256 ^ j % 256 = v / 256 ^ j % 256 := by
    have hdvd : 256 ∣ 256 ^ (n - j) := dvd_pow_self 256 (by omega)
    rw [← pow_mul_pow_sub 256 hj.le, Nat.mod_mul_right_div_self, Nat.mod_mod_of_dvd _ hdvd]
  rw [BitVec.toNat_ofNat, BitVec.toNat_ofNat]
  exact hdigit (by split <;> omega)

/-- What an access finds, as a number: no word is too narrow for it (20_memory.md R61). -/
theorem loadValue_toNat (s : State) (addr : Word) (size : Size) :
    (loadValue s addr size).toNat = hostValue s.platform.endian (bytesAt s addr size.bytes) := by
  have hle : 256 ^ size.bytes ≤ 2 ^ 64 := Nat.pow_le_pow_right (by decide) size.bytes_le
  rw [loadValue_eq_ofNat, BitVec.toNat_ofNat, Nat.mod_eq_of_lt ((hostValue_bytesAt_lt ..).trans_le hle)]

/-! ### The operation behind an atomic -/

/-- The access size of an atomic. -/
def AtomicSize.size : AtomicSize → Size
  | .w => .w
  | .dw => .dw

@[simp] theorem AtomicSize.size_bytes (z : AtomicSize) : z.size.bytes = z.bytes := by cases z <;> rfl

/-- An operation on the operands of a size, as `atomicUpdate32` and `atomicUpdate64` apply it (46_atomic.md R392). -/
def AtomicSize.update (z : AtomicSize) (f : {n : Nat} → BitVec n → BitVec n → BitVec n) (old v : Word) : Word :=
  match z with
  | .w => zext32 (f (low32 old) (low32 v))
  | .dw => f old v

/-- The arithmetic operation of the same name (46_atomic.md R391). -/
def AtomicCode.arith : AtomicCode → ArithCode
  | .add => .add
  | .or => .or
  | .and => .and
  | .xor => .xor

section
variable (c : AtomicCode) (z : AtomicSize) (dst src : Reg) (off : Off) (s : State)

theorem AtomicCode.exec_plain :
    exec (c.plain z dst src off) s = atomicUpdate z.group z.size (z.update c.arith.operation) false dst src off s := by
  cases c <;> cases z <;> rfl

theorem AtomicCode.exec_fetching :
    exec (c.fetching z dst src off) s = atomicUpdate z.group z.size (z.update c.arith.operation) true dst src off s := by
  cases c <;> cases z <;> rfl

theorem AtomicSize.exec_xchg :
    exec (z.xchg dst src off) s = atomicUpdate z.group z.size (z.update exchange) true dst src off s := by
  cases z <;> rfl

theorem AtomicSize.exec_cmpxchg : exec (z.cmpxchg dst src off) s = atomicCompare z.group z.size dst src off s := by
  cases z <;> rfl

end

/-! ### What the operations compute, as numbers -/

theorem low32_toNat (v : Word) : (low32 v).toNat = v.toNat % 2 ^ 32 := BitVec.toNat_setWidth ..

theorem zext32_toNat (v : Word32) : (zext32 v).toNat = v.toNat := BitVec.toNat_setWidth_of_le (by decide)

/-- The operation of a code is the claim's, cut to the width (46_atomic.md R391, 40_alu32.md R140). -/
theorem AtomicCode.operation_toNat {n : Nat} (hn : ∃ k, n = 2 ^ k) (c : AtomicCode) (a b : BitVec n) :
    (c.arith.operation a b).toNat = c.new a.toNat b.toNat % 2 ^ n := by
  have hresult : c.arith.result a b = BitVec.ofNat n (c.new a.toNat b.toNat) := by cases c <;> rfl
  rw [ArithCode.operation_eq_result a b hn, hresult, BitVec.toNat_ofNat]

section
variable (z : AtomicSize)

/-- The operands are cut to the size before the operation, and its result after it (46_atomic.md R392). -/
theorem AtomicSize.update_operation_toNat (c : AtomicCode) (old v : Word) :
    (z.update c.arith.operation old v).toNat =
      c.new (old.toNat % 256 ^ z.bytes) (v.toNat % 256 ^ z.bytes) % 256 ^ z.bytes := by
  cases z with
  | w =>
    rw [AtomicSize.update, zext32_toNat, c.operation_toNat ⟨5, rfl⟩, low32_toNat, low32_toNat]
    rfl
  | dw =>
    have hold : old.toNat % 256 ^ AtomicSize.dw.bytes = old.toNat := Nat.mod_eq_of_lt old.isLt
    have hv : v.toNat % 256 ^ AtomicSize.dw.bytes = v.toNat := Nat.mod_eq_of_lt v.isLt
    rw [AtomicSize.update, c.operation_toNat ⟨6, rfl⟩, hold, hv]
    rfl

/-- The exchange stores the low bytes of the register (46_atomic.md R402, R412). -/
theorem AtomicSize.update_exchange_toNat (old v : Word) : (z.update exchange old v).toNat = v.toNat % 256 ^ z.bytes := by
  cases z with
  | w => exact (zext32_toNat _).trans (low32_toNat v)
  | dw => exact (Nat.mod_eq_of_lt v.isLt).symm

/-- The comparand is the low bytes of r0 (46_atomic.md R403, R413). -/
theorem AtomicSize.comparand_toNat (r0 : Word) : (comparand z.size r0).toNat = r0.toNat % 256 ^ z.bytes := by
  cases z with
  | w => exact (zext32_toNat _).trans (low32_toNat r0)
  | dw => exact (Nat.mod_eq_of_lt r0.isLt).symm

end

section
variable (z : AtomicSize) (s : State) (addr v : Word)

theorem AtomicSize.loadValue_toNat :
    (loadValue s addr z.size).toNat = hostValue s.platform.endian (bytesAt s addr z.bytes) :=
  z.size_bytes ▸ Machine.loadValue_toNat s addr z.size

theorem AtomicSize.loadValue_eq_ofNat :
    loadValue s addr z.size = BitVec.ofNat 64 (hostValue s.platform.endian (bytesAt s addr z.bytes)) :=
  z.size_bytes ▸ Machine.loadValue_eq_ofNat s addr z.size

/-- The bytes that a simple atomic stores (46_atomic.md R391). -/
theorem AtomicSize.hostBytes_update_operation (c : AtomicCode) :
    hostBytes s.platform.endian z.bytes (z.update c.arith.operation (loadValue s addr z.size) v).toNat =
      hostBytes s.platform.endian z.bytes
        (c.new (hostValue s.platform.endian (bytesAt s addr z.bytes)) (v.toNat % 256 ^ z.bytes)) := by
  rw [z.update_operation_toNat, hostBytes_mod, z.loadValue_toNat, Nat.mod_eq_of_lt (hostValue_bytesAt_lt ..)]

/-- The bytes that the exchange stores (46_atomic.md R402, R412). -/
theorem AtomicSize.hostBytes_update_exchange (old : Word) :
    hostBytes s.platform.endian z.bytes (z.update exchange old v).toNat = hostBytes s.platform.endian z.bytes v.toNat := by
  rw [z.update_exchange_toNat, hostBytes_mod]

/-- The comparison of words is that of the numbers in the claim, and so is the choice that it makes (46_atomic.md R403, R413). -/
theorem AtomicSize.compare_toNat (r0 : Word) :
    (if loadValue s addr z.size = comparand z.size r0 then v else loadValue s addr z.size).toNat =
      if hostValue s.platform.endian (bytesAt s addr z.bytes) = r0.toNat % 256 ^ z.bytes then v.toNat
      else hostValue s.platform.endian (bytesAt s addr z.bytes) := by
  simp only [apply_ite BitVec.toNat, ← BitVec.toNat_inj, z.loadValue_toNat, z.comparand_toNat]

end

/-! ### Answers of the two shared operations -/

/-- Storing a value and ending at the next slot with another in a register is the claim's result (46_atomic.md R391). -/
theorem exchangeResult_storeValue_finish (s : State) (addr : Word) (size : Size) (v old : Word) {dst : Reg} (hd : dst.Valid) :
    ExchangeResult s ((storeValue s addr size v).finish dst old) addr (hostBytes s.platform.endian size.bytes v.toNat) dst old
      (s.pc + 1) := by
  obtain ⟨hwrote, -, hpc, hrest⟩ := (storeValue s addr size v).registerResult_finish hd old
  exact ⟨hwrote, storedBytes_storeValue s addr size v, hpc, hrest⟩

section
variable {z : AtomicSize} {dst src : Reg} {off : Off} {s : State} {base v : Word}
variable (hd : dst.Valid) (hs : src.Valid) (hg : supports s.platform.groups z.group = true) (hbase : s.reg dst = some base)
  (hv : s.reg src = some v) (ha : AccessAllowed s.platform (effectiveAddress base off) z.bytes .atomic)
include hd hs hg hbase hv ha

/-- Where the registers exist and hold values, the group is supported and the access is performed, nothing in an atomic faults. -/
theorem atomicUpdate_answers (f : Word → Word → Word) :
    ∃ t, atomicUpdate z.group z.size f false dst src off s = .next t ∧
      StoreResult s t (effectiveAddress base off)
        (hostBytes s.platform.endian z.bytes (f (loadValue s (effectiveAddress base off) z.size) v).toNat) (s.pc + 1) := by
  rw [← z.size_bytes] at ha ⊢
  exact ⟨_, atomicUpdate_eq_next.mpr ⟨permit_of (forall_mem_regs_x hd hs) hg, base, v, hbase, hv, checkAccess_iff.mpr ha, rfl⟩,
    storeResult_storeValue_advance ..⟩

/-- With FETCH the value found goes to the source, which is read before that, also where it is the base (46_atomic.md R393). -/
theorem atomicUpdate_fetch_answers (f : Word → Word → Word) :
    ∃ t, atomicUpdate z.group z.size f true dst src off s = .next t ∧
      ExchangeResult s t (effectiveAddress base off)
        (hostBytes s.platform.endian z.bytes (f (loadValue s (effectiveAddress base off) z.size) v).toNat) src
        (BitVec.ofNat 64 (hostValue s.platform.endian (bytesAt s (effectiveAddress base off) z.bytes))) (s.pc + 1) := by
  rw [← z.loadValue_eq_ofNat]
  rw [← z.size_bytes] at ha ⊢
  exact ⟨_, atomicUpdate_eq_next.mpr ⟨permit_of (forall_mem_regs_x hd hs) hg, base, v, hbase, hv, checkAccess_iff.mpr ha, rfl⟩,
    exchangeResult_storeValue_finish s _ _ _ _ hs⟩

/-- The compare-and-exchange reads r0 besides, and writes it whatever the comparison says (46_atomic.md R391, R393). -/
theorem atomicCompare_answers {r0 : Word} (hr0 : s.reg 0 = some r0) :
    ∃ t, atomicCompare z.group z.size dst src off s = .next t ∧
      ExchangeResult s t (effectiveAddress base off)
        (hostBytes s.platform.endian z.bytes
          (if loadValue s (effectiveAddress base off) z.size = comparand z.size r0 then v
            else loadValue s (effectiveAddress base off) z.size).toNat) 0
        (BitVec.ofNat 64 (hostValue s.platform.endian (bytesAt s (effectiveAddress base off) z.bytes))) (s.pc + 1) := by
  rw [← z.loadValue_eq_ofNat]
  rw [← z.size_bytes] at ha ⊢
  exact ⟨_, atomicCompare_eq_next.mpr
      ⟨permit_of (forall_mem_regs_x hd hs) hg, base, v, r0, hbase, hv, hr0, checkAccess_iff.mpr ha, rfl⟩,
    exchangeResult_storeValue_finish s _ _ _ _ (by decide)⟩

end

/-! ### The results of the atomics -/

/-- Settles O40. Each instruction is the read-modify-write by its operation, and the bytes stored hold its number up to their count. -/
theorem atomicPlainResults : Obligations.AtomicPlainResults := by
  intro z dst src off s base v hd hs hg hbase hv ha addr old c
  rw [c.exec_plain, ← z.hostBytes_update_operation]
  exact atomicUpdate_answers hd hs hg hbase hv ha _

/-- Settles O41. The same read-modify-write, and the value that it finds goes to the source. -/
theorem atomicFetchResults : Obligations.AtomicFetchResults := by
  intro z dst src off s base v hd hs hg hbase hv ha addr old c
  rw [c.exec_fetching, ← z.hostBytes_update_operation]
  exact atomicUpdate_fetch_answers hd hs hg hbase hv ha _

/-- Settles O42. The exchange is the fetching read-modify-write whose new value is the operand. -/
theorem atomicExchangeResults : Obligations.AtomicExchangeResults := by
  intro z dst src off s base v hd hs hg hbase hv ha addr old
  rw [z.exec_xchg, ← z.hostBytes_update_exchange s v (loadValue s addr z.size)]
  exact atomicUpdate_fetch_answers hd hs hg hbase hv ha _

/-- Settles O43. The model compares words and the claim numbers; both choose the same value to store. -/
theorem atomicCompareResults : Obligations.AtomicCompareResults := by
  intro z dst src off s base v hd hs hg hbase hv ha addr old r0 hr0
  rw [z.exec_cmpxchg, ← z.compare_toNat]
  exact atomicCompare_answers hd hs hg hbase hv ha hr0

end Sys2Proof.Machine

/-! SUPPORT. The fetch (60_exceptions.md R462 to R465, R474): the scan for second slots as a law from slot to slot, what the fetch answers
in each of its branches, and that the environment has no part in it. -/

namespace Sys2Proof.Machine

/-! ### The scan for second slots -/

/-- A mark of the scan is that of the slot before it: the slot exists, and the slot before is in instruction position and wide. -/
theorem secondSlots_getElem?_succ (program : List Slot) (after : Bool) (p : Nat) :
    (secondSlots after program)[p + 1]?.getD false = true ↔
      p + 1 < program.length ∧ (secondSlots after program)[p]?.getD false = false ∧
        ∃ slot, program[p]? = some slot ∧ slot.isWide = true := by
  induction program generalizing after p with
  | nil => simp [secondSlots]
  | cons first rest ih =>
    cases p with
    | zero => cases rest <;> simp [secondSlots]
    | succ p => simpa [secondSlots] using ih (!after && first.isWide) p

theorem isSecondSlot_zero (program : List Slot) : isSecondSlot program 0 = false := by
  cases program <;> rfl

/-- Slot `p + 1` is a second slot exactly where slot `p` starts a wide instruction (60_exceptions.md R462). -/
theorem isSecondSlot_succ {program : List Slot} {p : Nat} :
    isSecondSlot program (p + 1) = true ↔
      p + 1 < program.length ∧ isSecondSlot program p = false ∧ ∃ slot, program[p]? = some slot ∧ slot.isWide = true :=
  secondSlots_getElem?_succ program false p

theorem Slot.isWide_iff {slot : Slot} : slot.isWide = true ↔ slot.b0 = 0x18 := beq_iff_eq

/-- Settles O6. The scan carries from each slot to the next whether it is a second one, which is the law by induction on the program. -/
theorem secondSlotScan : Obligations.SecondSlotScan := fun program p =>
  ⟨isSecondSlot_zero program, by simp only [isSecondSlot_succ, Slot.isWide_iff]⟩

/-! ### What the fetch answers -/

section
variable {s : State}

theorem fetch_of_neg (h : s.pc < 0) : fetch s = .error (.pcOutOfRange s.pc) := if_pos h

theorem fetch_of_length_le (h : s.program.length ≤ s.pc) : fetch s = .error (.pcOutOfRange s.pc) := by
  have hnone : s.program[s.pc.toNat]? = none := List.getElem?_eq_none (by omega)
  rw [fetch, if_neg (by omega), hnone]

theorem fetch_of_isSecondSlot (h0 : 0 ≤ s.pc) (hlt : s.pc < s.program.length)
    (h : isSecondSlot s.program s.pc.toNat = true) : fetch s = .error (.jumpIntoWide s.pc) := by
  have hsome : s.program[s.pc.toNat]? = some s.program[s.pc.toNat] := List.getElem?_eq_getElem (by omega)
  simp only [fetch, if_neg (Int.not_lt.mpr h0), hsome, h, if_true]

theorem fetch_of_decodeSlots_eq_error {slot : Slot} {err : DecodeError} (h0 : 0 ≤ s.pc)
    (hslot : s.program[s.pc.toNat]? = some slot) (h : isSecondSlot s.program s.pc.toNat = false)
    (hd : decodeSlots s.platform.endian slot s.program[s.pc.toNat + 1]? = .error err) :
    fetch s = .error (.illegalInstruction s.pc) := by
  simp only [fetch, if_neg (Int.not_lt.mpr h0), hslot, h, hd, Bool.false_eq_true, if_false]

/-- The environment changes nothing that the fetch looks at (20_memory.md R72, 92_eei_decisions.md D17). -/
@[simp] theorem fetch_interfere (s : State) : fetch s.interfere = fetch s := by
  simp only [fetch, State.interfere_pc, State.interfere_program, State.interfere_platform]

theorem State.interfere_of_nil (h : s.interference = []) : s.interfere = s := by
  rw [State.interfere, h]

/-- A running step whose fetch faults is that fault. -/
theorem step_of_fetch_eq_error {f : Fault} (hs : s.status = .running) (h : fetch s = .error f) : step s = .fault f := by
  simp only [step, hs, fetch_interfere, h]

/-- A running step whose fetch answers an instruction executes it after the environment has acted (60_exceptions.md R462). -/
theorem step_of_fetch_eq_ok {i : Instr} (hs : s.status = .running) (h : fetch s = .ok i) : step s = exec i s.interfere := by
  simp only [step, hs, fetch_interfere, h]

end

/-- Settles O8. Each clause is one branch of the fetch, and a step whose fetch faults goes no further. -/
theorem fetchFaults : Obligations.FetchFaults := fun _ hs =>
  ⟨fun h => step_of_fetch_eq_error hs (h.elim fetch_of_neg fetch_of_length_le),
    fun h0 hlt h => step_of_fetch_eq_error hs (fetch_of_isSecondSlot h0 hlt h),
    fun _ _ h0 hslot h hd => step_of_fetch_eq_error hs (fetch_of_decodeSlots_eq_error h0 hslot h hd)⟩

/-- Settles O7. The hypotheses are those of a fetch that answers the instruction. -/
theorem stepRunsDecodedInstruction : Obligations.StepRunsDecodedInstruction := by
  intro s slot i hs h0 hslot hsecond hd
  have hstep : step s = exec i s.interfere := step_of_fetch_eq_ok hs (fetch_eq_ok.mpr ⟨h0, slot, hslot, hsecond, hd⟩)
  exact ⟨hstep, s.onlyEnvironmentActed_interfere, fun hnone => by rw [hstep, State.interfere_of_nil hnone]⟩

end Sys2Proof.Machine

/-! SUPPORT. The faults of an instruction (60_exceptions.md R461 to R470): each fault that `exec` can answer, with what it says of the
instruction and the state. With the frames of the instructions and the law of the scan, it gives what a program that passed the load check
can run into (70_reset_and_hazards.md R502). -/

namespace Sys2Proof.Machine

/-! ### Which faults a computation raises -/

/-- Every fault that the computation can end in has the property. -/
def RaisesOnly {α : Type} (p : Fault → Prop) (x : Except Fault α) : Prop := ∀ f, x = .error f → p f

section
variable {α β : Type} {p : Fault → Prop}

theorem RaisesOnly.bind {x : Except Fault α} {k : α → Except Fault β} (hx : RaisesOnly p x) (hk : ∀ a, RaisesOnly p (k a)) :
    RaisesOnly p (x >>= k) := by
  intro f hf
  cases x with
  | error e =>
    rw [bind_of_error] at hf
    exact hx f (congrArg Except.error (Except.error.inj hf))
  | ok a => exact hk a f hf

theorem RaisesOnly.pure (a : α) : RaisesOnly p (Pure.pure a : Except Fault α) := nofun

theorem RaisesOnly.error {f : Fault} (h : p f) : RaisesOnly p (.error f : Except Fault α) := by
  rintro _ ⟨⟩
  exact h

end

/-- `Raised i s f`: the fault `f` is one that the execution of `i` can raise in state `s`. The faults of the checks, and `CallDepth`, come
with their cause. -/
inductive Raised (i : Instr) (s : State) : Fault → Prop
  | illegalInstruction (h : ¬ i.WellFormed ∨ ∃ next, i = .immNext next) : Raised i s (.illegalInstruction s.pc)
  | unsupportedGroup (h : supports s.platform.groups (groupOf i) = false) : Raised i s (.unsupportedGroup (groupOf i))
  | uninitRegister {r} : Raised i s (.uninitRegister r)
  | memFault {a n k} : Raised i s (.memFault a n k)
  | unknownHelper {imm} : Raised i s (.unknownHelper imm)
  | helperFault {imm} : Raised i s (.helperFault imm)
  | platformLookup {subtype imm} : Raised i s (.platformLookup subtype imm)
  | callDepth {imm} (hi : i = .callKJmpLocal imm) (hmay : s.mayCall = false) : Raised i s .callDepth

section
variable {i : Instr} {s : State}

/-- The checks before an instruction's rule (60_exceptions.md R463, R466). -/
theorem Facts.permit_raises {g : ConfGroup} {named reads writes : List Reg} {slots : Int} {narrow : Bool}
    (h : Facts i g named reads writes slots narrow) : RaisesOnly (Raised i s) (permit s g named) := by
  rw [← h.group, ← h.regs]
  by_cases hwf : i.WellFormed
  · cases hg : supports s.platform.groups (groupOf i) with
    | false => exact permit_of_not_supported hwf hg ▸ .error (.unsupportedGroup hg)
    | true => exact permit_of hwf hg ▸ .pure ()
  · exact permit_of_not_valid hwf ▸ .error (.illegalInstruction (.inl hwf))

theorem readReg_raises (r : Reg) : RaisesOnly (Raised i s) (readReg s r) := by
  intro f hf
  obtain ⟨-, rfl⟩ := readReg_eq_error.mp hf
  exact .uninitRegister

theorem value64_raises (b : Source) : RaisesOnly (Raised i s) (b.value64 s) := by
  cases b with
  | k imm => exact .pure _
  | x src => exact readReg_raises src

theorem value32_raises (b : Source) : RaisesOnly (Raised i s) (b.value32 s) := by
  cases b with
  | k imm => exact .pure _
  | x src =>
    have hmap : (Source.x src).value32 s = readReg s src >>= fun v => pure (low32 v) := by
      rw [Source.value32]
      cases readReg s src <;> rfl
    exact hmap ▸ (readReg_raises src).bind fun _ => .pure _

theorem checkBytes_raises (addr : Word) (k : MemKind) (n : Nat) : RaisesOnly (Raised i s) (checkBytes s.platform addr k n) := by
  induction n generalizing addr with
  | zero => exact .pure _
  | succ n ih =>
    rw [checkBytes]
    split
    · exact ih _
    · exact .error .memFault

theorem checkAccess_raises (addr : Word) (n : Nat) (k : MemKind) : RaisesOnly (Raised i s) (checkAccess s.platform addr n k) := by
  unfold checkAccess
  split
  · split
    · exact .pure _
    · exact .error .memFault
  · split
    · split
      · exact checkBytes_raises addr k n
      · exact .error .memFault
    · exact .error .memFault

theorem memRead_raises (addr : Word) (size : Size) : RaisesOnly (Raised i s) (memRead s addr size) :=
  (checkAccess_raises addr _ _).bind fun _ => .pure _

theorem memWrite_raises (addr : Word) (size : Size) (v : Word) : RaisesOnly (Raised i s) (memWrite s addr size v) :=
  (checkAccess_raises addr _ _).bind fun _ => .pure _

theorem atomicRMW_raises (addr : Word) (size : Size) (f : Word → Word) : RaisesOnly (Raised i s) (atomicRMW s addr size f) :=
  (checkAccess_raises addr _ _).bind fun _ => .pure _

theorem callHelper_raises (ids : IdSet) (imm : Imm) : RaisesOnly (Raised i s) (callHelper s ids imm) := by
  unfold callHelper
  split
  · split
    · exact .pure _
    · exact .error .helperFault
    · exact .pure _
  · exact .error .unknownHelper

theorem callLocal_raises {imm : Imm} (hi : i = .callKJmpLocal imm) (d : Int) : RaisesOnly (Raised i s) (callLocal s d) := by
  unfold callLocal
  split
  · exact .pure _
  · next hmay => exact .error (.callDepth hi (Bool.eq_false_iff.mpr hmay))

theorem endRun_raises : RaisesOnly (Raised i s) (endRun s) := by
  unfold endRun
  split
  · exact .pure _
  · exact (readReg_raises 0).bind fun _ => .pure _

theorem returnOrEnd_raises : RaisesOnly (Raised i s) (returnOrEnd s) := by
  unfold returnOrEnd
  split
  · exact endRun_raises
  · exact .pure _

theorem demandAddress_raises (subtype : BitVec 4) (imm : Imm) (a : Option Word) :
    RaisesOnly (Raised i s) (demandAddress subtype imm a) := by
  cases a with
  | some a => exact .pure _
  | none => exact .error .platformLookup

theorem valueAddress_raises (subtype : BitVec 4) (imm : Imm) (map : Option Word) (next : Imm) :
    RaisesOnly (Raised i s) (valueAddress s subtype imm map next) :=
  (demandAddress_raises _ _ _).bind fun _ => .pure _

/-! ### Which faults an instruction raises -/

/-- The 64-bit immediates are the instructions of two slots: after the checks only their address function can fault
(60_exceptions.md R469). -/
theorem exec_wide (hw : slotsOf i = 2) (s : State) :
    ∃ dst v, Facts i .base64 [dst] [] [dst] 2 false ∧ exec i s = setWide .base64 dst v s ∧ RaisesOnly (Raised i s) v := by
  cases i with
  | immDwLdImm64 => exact ⟨_, _, {}, rfl, .pure _⟩
  | immDwLdMapfd | immDwLdVaraddr | immDwLdCodeaddr | immDwLdMapidx => exact ⟨_, _, {}, rfl, demandAddress_raises _ _ _⟩
  | immDwLdMapfdVal | immDwLdMapidxVal => exact ⟨_, _, {}, rfl, valueAddress_raises _ _ _ _⟩
  | _ => exact absurd (show (1 : Int) = 2 from hw) (by decide)

/-- A meaning that makes its checks and then computes raises the faults of the checks and of the computation. -/
theorem Facts.raised {g : ConfGroup} {named reads writes : List Reg} {slots : Int} {narrow : Bool} {body : Except Fault State}
    {f : Fault} (h : Facts i g named reads writes slots narrow) (hb : RaisesOnly (Raised i s) body)
    (hf : outcome (permit s g named >>= fun _ => body) = .fault f) : Raised i s f :=
  (h.permit_raises.bind fun _ => hb) f (outcome_eq_fault.mp hf)

/-- The meaning of an instruction of one slot makes its checks, reads its operands and then acts, and each part raises its own faults. -/
theorem Meaning.raised {r : Result} {f : Fault} (h : Meaning i s r) (hw : slotsOf i ≠ 2) (hr : r = .fault f) : Raised i s f := by
  cases h with
  | alu32 h | branch32 h => exact h.raised ((readReg_raises _).bind fun _ => (value32_raises _).bind fun _ => .pure _) hr
  | alu64 h | branch64 h => exact h.raised ((readReg_raises _).bind fun _ => (value64_raises _).bind fun _ => .pure _) hr
  | mov32 h => exact h.raised ((value32_raises _).bind fun _ => .pure _) hr
  | mov64 h => exact h.raised ((value64_raises _).bind fun _ => .pure _) hr
  | neg32 h | neg64 h | movsx32 h | movsx64 h | swapRegister h => exact h.raised ((readReg_raises _).bind fun _ => .pure _) hr
  | jumpAlways h => exact h.raised (.pure _) hr
  | helperCall h => exact h.raised ((callHelper_raises _ _).bind fun _ => .pure _) hr
  | localCall h hi => exact h.raised (callLocal_raises hi _) hr
  | exitCall h => exact h.raised returnOrEnd_raises hr
  | loadInto h => exact h.raised ((readReg_raises _).bind fun _ => (memRead_raises _ _).bind fun _ => .pure _) hr
  | storeFrom h =>
    exact h.raised ((readReg_raises _).bind fun _ => (value64_raises _).bind fun _ =>
      (memWrite_raises _ _ _).bind fun _ => .pure _) hr
  | atomicUpdate h =>
    exact h.raised ((readReg_raises _).bind fun _ => (readReg_raises _).bind fun _ =>
      (atomicRMW_raises _ _ _).bind fun _ => .pure _) hr
  | atomicCompare h =>
    exact h.raised ((readReg_raises _).bind fun _ => (readReg_raises _).bind fun _ => (readReg_raises _).bind fun _ =>
      (atomicRMW_raises _ _ _).bind fun _ => .pure _) hr
  | setWide h => exact absurd h.slots hw
  | secondSlot next hi =>
    cases hr
    exact .illegalInstruction (.inr ⟨next, hi⟩)
  | packet => cases hr

/-- Every fault that an instruction answers is one of these (60_exceptions.md R461 to R470). -/
theorem exec_raised {f : Fault} (h : exec i s = .fault f) : Raised i s f := by
  by_cases hw : slotsOf i = 2
  · obtain ⟨dst, v, hfacts, hexec, hv⟩ := exec_wide hw s
    exact hfacts.raised (hv.bind fun _ => .pure _) (hexec ▸ h)
  · exact (exec_meaning i s).raised hw h

/-- A program-local call faults where there is no room for one more frame (44_call_exit.md R341, R346). -/
theorem exec_callKJmpLocal_of_not_mayCall (imm : Imm) (h : s.mayCall = false) : exec (.callKJmpLocal imm) s = .fault .callDepth := by
  have hexec : exec (.callKJmpLocal imm) s = outcome (permit s .base32 [] >>= fun _ => callLocal s (immDisplacement imm)) := rfl
  rw [hexec, permit_base32, callLocal, h]
  rfl

theorem State.mayCall_eq_false_iff :
    s.mayCall = false ↔ ∃ bound, s.platform.maxCallDepth = some bound ∧ bound ≤ s.calls.length := by
  rw [← Bool.not_eq_true, State.mayCall_iff]
  simp

end

/-- Settles O29. Of the faults that an instruction can raise, CallDepth is that of a call without room. -/
theorem callDepthFault : Obligations.CallDepthFault := by
  refine fun s => ⟨fun imm bound hbound hfull => ?_, fun i hi => ?_⟩
  · exact exec_callKJmpLocal_of_not_mayCall imm (State.mayCall_eq_false_iff.mpr ⟨bound, hbound, hfull⟩)
  · cases exec_raised hi with
    | callDepth hlocal hmay =>
      obtain ⟨bound, hbound, hfull⟩ := State.mayCall_eq_false_iff.mp hmay
      exact ⟨_, bound, hlocal, hbound, hfull⟩

/-! ### Where a checked program can be -/

theorem isEntry_iff {program : List Slot} {t : Int} :
    isEntry program t = true ↔ 0 ≤ t ∧ t < program.length ∧ isSecondSlot program t.toNat = false := by
  simp [isEntry, and_assoc]

theorem reachable_of_le {program : List Slot} {n : Nat} (hle : n ≤ program.length) (h : isSecondSlot program n = false) :
    Reachable program n := by
  obtain rfl | hlt := Nat.eq_or_lt_of_le hle
  · exact .inr rfl
  · exact .inl (isEntry_iff.mpr ⟨Int.natCast_nonneg n, Int.ofNat_lt.mpr hlt, h⟩)

/-- An instruction occupies two slots exactly where its first slot starts a wide one, which then has a slot after it
(30_encoding.md R98, 10_state.md R41). -/
theorem slotsOf_of_decodeSlots {e : Endian} {first : Slot} {second : Option Slot} {i : Instr}
    (h : decodeSlots e first second = .ok i) :
    slotsOf i = (if first.isWide then 2 else 1) ∧ (first.isWide = true → second ≠ none) := by
  obtain ⟨-, -, hslots⟩ := decodeSlots_eq_ok h
  obtain ⟨hfirst, hrest⟩ := List.cons.inj hslots
  have hwide : (encodeFields i).2.isSome = first.isWide := by
    rw [encodeFields_isSome, ← hfirst, Slot.isWide, Fields.slot_b0]
  refine ⟨by rw [slotsOf, hwide], fun hw => ?_⟩
  rintro rfl
  obtain ⟨g, hg⟩ := Option.isSome_iff_exists.mp (hwide.trans hw)
  simp [hg, hw] at hrest

/-- The slot after an instruction in instruction position is one again, or the end of the program (60_exceptions.md R462). -/
theorem reachable_next {program : List Slot} {e : Endian} {p : Nat} {slot : Slot} {i : Instr} (hslot : program[p]? = some slot)
    (hp : isSecondSlot program p = false) (hd : decodeSlots e slot program[p + 1]? = .ok i) :
    Reachable program (p + slotsOf i) := by
  obtain ⟨hslots, hsecond⟩ := slotsOf_of_decodeSlots hd
  have hlt : p < program.length := (List.getElem?_eq_some_iff.mp hslot).1
  cases hw : slot.isWide with
  | true =>
    have hlt2 : p + 1 < program.length := by
      simpa using hsecond hw
    have hmark : isSecondSlot program (p + 1) = true := isSecondSlot_succ.mpr ⟨hlt2, hp, slot, hslot, hw⟩
    have hnext : isSecondSlot program (p + 2) = false := by
      refine Bool.eq_false_iff.mpr fun h => ?_
      obtain ⟨-, hno, -⟩ := isSecondSlot_succ.mp h
      exact Bool.false_ne_true (hno.symm.trans hmark)
    rw [hslots, hw]
    exact reachable_of_le hlt2 hnext
  | false =>
    have hnext : isSecondSlot program (p + 1) = false := by
      refine Bool.eq_false_iff.mpr fun h => ?_
      obtain ⟨-, -, slot', hslot', hw'⟩ := isSecondSlot_succ.mp h
      obtain rfl : slot = slot' := Option.some.inj (hslot.symm.trans hslot')
      exact Bool.false_ne_true (hw.symm.trans hw')
    rw [hslots, hw]
    exact reachable_of_le hlt hnext

/-! ### What the load check gives -/

/-- What the check asks of the instruction at slot `p`, as propositions. -/
structure Passes (platform : Platform) (program : List Slot) (p : Nat) (i : Instr) : Prop where
  executes : ∀ next, i ≠ .immNext next
  notPacket : groupOf i ≠ .packet
  supported : supports platform.groups (groupOf i) = true
  target : ∀ d, displacement i = some d → isEntry program (p + 1 + d) = true

theorem passes_of_instrPasses {platform : Platform} {program : List Slot} {p : Nat} {i : Instr}
    (h : instrPasses platform program p i = true) : Passes platform program p i := by
  unfold instrPasses at h
  split at h
  · cases h
  · next hnext =>
    simp only [Bool.and_eq_true, decide_eq_true_eq] at h
    obtain ⟨⟨hgroup, hsupported⟩, htarget⟩ := h
    exact ⟨hnext, hgroup, hsupported, fun d hd => by simpa [hd] using htarget⟩

theorem exists_passes {platform : Platform} {program : List Slot} {p : Nat} {slot : Slot} (hl : loadCheck platform program = true)
    (hslot : program[p]? = some slot) (hp : isSecondSlot program p = false) :
    ∃ i, decodeSlots platform.endian slot program[p + 1]? = .ok i ∧ Passes platform program p i := by
  have hlt : p < program.length := (List.getElem?_eq_some_iff.mp hslot).1
  have hpass : slotPasses platform program p = true := List.all_eq_true.mp hl p (List.mem_range.mpr hlt)
  simp only [slotPasses, hp, hslot, Bool.false_or] at hpass
  cases hd : decodeSlots platform.endian slot program[p + 1]? with
  | error => simp [hd] at hpass
  | ok i => exact ⟨i, rfl, passes_of_instrPasses (by simpa [hd] using hpass)⟩

section
variable {s t : State} {i : Instr}

/-- A loaded program is at its end, or the fetch answers an instruction. -/
theorem Loaded.atEnd_or_fetch (hl : Loaded s) : s.pc = s.program.length ∨ ∃ i, fetch s = .ok i := by
  obtain ⟨hcheck, hentry | hend, -⟩ := hl
  · obtain ⟨h0, hlt, hp⟩ := isEntry_iff.mp hentry
    have hslot : s.program[s.pc.toNat]? = some s.program[s.pc.toNat] := List.getElem?_eq_getElem (by omega)
    obtain ⟨i, hd, -⟩ := exists_passes hcheck hslot hp
    exact .inr ⟨i, fetch_eq_ok.mpr ⟨h0, _, hslot, hp, hd⟩⟩
  · exact .inl hend

/-- The instruction that a loaded program fetches is well-formed and has passed the check. -/
theorem Loaded.passes (hl : Loaded s) (hf : fetch s = .ok i) :
    i.WellFormed ∧ Passes s.platform s.program s.pc.toNat i := by
  obtain ⟨hcheck, -, -⟩ := hl
  obtain ⟨-, slot, hslot, hp, hd⟩ := fetch_eq_ok.mp hf
  obtain ⟨j, hj, hpass⟩ := exists_passes hcheck hslot hp
  obtain rfl : i = j := Except.ok.inj (hd.symm.trans hj)
  exact ⟨(decodeSlots_eq_ok hd).1, hpass⟩

/-- After a fetched instruction comes a slot that may be reached. -/
theorem reachable_of_fetch (hf : fetch s = .ok i) : Reachable s.program (s.pc + slotsOf i) := by
  obtain ⟨h0, slot, hslot, hp, hd⟩ := fetch_eq_ok.mp hf
  simpa [Int.toNat_of_nonneg h0] using reachable_next hslot hp hd

/-- An active frame after an instruction was active before it, or was pushed by the program-local call (44_call_exit.md R341). -/
theorem mem_calls_of_exec {f : Frame} (h : exec i s = .next t) (hf : f ∈ t.calls) :
    f ∈ s.calls ∨ slotsOf i = 1 ∧ f.ret = s.pc + 1 := by
  cases exec_effect h with
  | register | wideRegister | advance | jump | store | exchange => exact .inl hf
  | helperCall _ _ _ _ hu =>
    obtain ⟨-, hcalls, -⟩ := callHelper_keeps hu
    exact .inl (hcalls ▸ hf)
  | localCall hi ht =>
    subst hi
    obtain ⟨-, rfl⟩ := callLocal_eq_ok.mp ht
    obtain rfl | hf := List.mem_cons.mp hf
    · exact .inr ⟨rfl, s.frame_ret _⟩
    · exact .inl hf
  | exit _ ht =>
    obtain ⟨-, hend⟩ | ⟨g, rest, hcalls, rfl⟩ := returnOrEnd_eq_ok.mp ht
    · obtain ⟨-, rfl⟩ | ⟨-, _, -, rfl⟩ := endRun_eq_ok.mp hend
      · exact .inl hf
      · exact .inl hf
    · exact .inl (hcalls ▸ List.mem_cons_of_mem g hf)

/-- An instruction of a loaded program leads to a state of a loaded program: it goes on past its slots, to a target that was checked, or
to a return slot, and what it pushes is the slot after it. -/
theorem Loaded.exec_next (hl : Loaded s) (hf : fetch s = .ok i) (ht : exec i s = .next t) : Loaded t := by
  obtain ⟨-, hpass⟩ := hl.passes hf
  obtain ⟨h0, -⟩ := fetch_eq_ok.mp hf
  obtain ⟨hcheck, hpc, hrets⟩ := hl
  obtain ⟨hprogram, hplatform, -⟩ := restFrame i s t ht
  have hnext := reachable_of_fetch hf
  rw [Loaded, hprogram, hplatform]
  refine ⟨hcheck, ?pc, fun f hmem => ?rets⟩
  case pc =>
    obtain hseq | ⟨d, hd, hjump⟩ | ⟨-, ⟨-, hstay⟩ | ⟨f, rest, hcalls, hret⟩⟩ := pcMovesByText i s t ht
    · exact hseq ▸ hnext
    · exact .inl (by simpa [hjump, Int.toNat_of_nonneg h0] using hpass.target d hd)
    · exact hstay ▸ hpc
    · exact hret ▸ hrets f (hcalls ▸ List.mem_cons_self)
  case rets =>
    obtain hold | ⟨hslots, hret⟩ := mem_calls_of_exec ht hmem
    · exact hrets f hold
    · rw [hret, ← hslots]
      exact hnext

/-- It is never refused: only the packet group is. -/
theorem Loaded.exec_ne_refused (hl : Loaded s) (hf : fetch s = .ok i) (r : Refusal) : exec i s ≠ .refused r := by
  obtain ⟨-, hpass⟩ := hl.passes hf
  obtain ⟨body, hexec, -⟩ | ⟨⟨next, hi⟩ | hg, -⟩ := (exec_meaning i s).checked
  · exact hexec ▸ outcome_ne_refused _ r
  · exact absurd hi (hpass.executes next)
  · exact absurd hg hpass.notPacket

/-- Of the faults that it can raise, those of the checks are excluded by the check of the program. -/
theorem Loaded.exec_fault {f : Fault} (hl : Loaded s) (hf : fetch s = .ok i) (h : exec i s = .fault f) :
    (∀ p, f ≠ .illegalInstruction p) ∧ (∀ p, f ≠ .jumpIntoWide p) ∧ (∀ g, f ≠ .unsupportedGroup g) ∧
      ∀ p, f ≠ .pcOutOfRange p := by
  obtain ⟨hwf, hpass⟩ := hl.passes hf
  cases exec_raised h with
  | illegalInstruction hi =>
    obtain hwf' | ⟨next, hi⟩ := hi
    · exact absurd hwf hwf'
    · exact absurd hi (hpass.executes next)
  | unsupportedGroup hg => exact absurd (hg.symm.trans hpass.supported) Bool.false_ne_true
  | uninitRegister | memFault | unknownHelper | helperFault | platformLookup | callDepth => exact ⟨nofun, nofun, nofun, nofun⟩

/-- The environment leaves a loaded program loaded. -/
theorem Loaded.interfere (hl : Loaded s) : Loaded s.interfere := by simpa [Loaded] using hl

end

/-- Settles O60. A run that has ended stays; a running one is at the end of its program, where the fetch faults, or fetches an
instruction that passed the check. -/
theorem loadedProgramsRunLegally : Obligations.LoadedProgramsRunLegally := by
  intro s hl
  cases hs : s.status with
  | ended r =>
    rw [endedRunStays s r hs]
    refine ⟨?_, nofun, nofun⟩
    rintro _ ⟨⟩
    exact hl
  | running =>
    obtain hend | ⟨i, hf⟩ := hl.atEnd_or_fetch
    · rw [step_of_fetch_eq_error hs (fetch_of_length_le hend.ge)]
      refine ⟨fun _ h => (nomatch h), nofun, ?_⟩
      rintro _ ⟨⟩
      exact ⟨nofun, nofun, nofun, fun _ hp => (Fault.pcOutOfRange.inj hp).symm.trans hend⟩
    · rw [step_of_fetch_eq_ok hs hf]
      rw [← fetch_interfere] at hf
      refine ⟨fun t => hl.interfere.exec_next hf, hl.interfere.exec_ne_refused hf, fun f h => ?_⟩
      obtain ⟨hillegal, hwide, hgroup, hrange⟩ := hl.interfere.exec_fault hf h
      exact ⟨hillegal, hwide, hgroup, fun p hp => absurd hp (hrange p)⟩

end Sys2Proof.Machine

/-! SUPPORT. The 64-bit immediates (47_imm64.md R430 to R438) and the stops: the packet group (48_packet.md R450) and IMM_NEXT (R431).
Each immediate writes one register with a value that no register gives, or faults as its address function does; a table gives an address,
or is absent, exactly where the lookup finds one, or none. -/

namespace Sys2Proof.Machine

/-! ### The platform's tables -/

section
variable {κ : Type} [DecidableEq κ] {t : Table κ} {free : κ → Word} {k : κ} {a : Word}

/-- A lookup finds what the table gives (00_scope.md R10, log 8). -/
theorem lookup_of_gives (h : TableGives t free k a) : lookup t free k = some a := by
  obtain ⟨before, after, hentries, hbefore⟩ | ⟨hnone, hopen, rfl⟩ := h
  · have hfind : t.entries.find? (fun e => decide (e.1 = k)) = some (k, a) := by
      rw [hentries, List.find?_append, List.find?_eq_none.mpr (by simpa using hbefore), Option.none_or]
      simp
    rw [lookup, hfind]
  · have hfind : t.entries.find? (fun e => decide (e.1 = k)) = none := List.find?_eq_none.mpr (by simpa using hnone)
    rw [lookup, hfind, hopen]
    rfl

/-- A lookup finds nothing where the table is absent. -/
theorem lookup_of_absent (h : TableAbsent t k) : lookup t free k = none := by
  obtain ⟨hnone, hopen⟩ := h
  have hfind : t.entries.find? (fun e => decide (e.1 = k)) = none := List.find?_eq_none.mpr (by simpa using hnone)
  rw [lookup, hfind, hopen]
  rfl

end

/-! ### The values of the immediates -/

/-- The upper half of the value is `next_imm`, the lower half `imm` (47_imm64.md R432). -/
theorem imm64_eq_ofNat (imm nextImm : Imm) : imm64 imm nextImm = BitVec.ofNat 64 (nextImm.toNat * 2 ^ 32 + imm.toNat) := by
  refine BitVec.eq_of_toNat_eq ?_
  have := imm.isLt
  have := nextImm.isLt
  rw [imm64, BitVec.toNat_append, ← Nat.shiftLeft_add_eq_or_of_lt imm.isLt, Nat.shiftLeft_eq, BitVec.toNat_ofNat]
  omega

/-- `next_imm` is added as a signed value, modulo 2^64 (47_imm64.md R434, R438). -/
theorem add_sextImm_eq_ofInt (b : Word) (nextImm : Imm) : b + sextImm nextImm = BitVec.ofInt 64 (b.toInt + nextImm.toInt) := by
  rw [BitVec.ofInt_add, BitVec.ofInt_toInt, sextImm_eq_ofInt]

section
variable {s : State} {subtype : BitVec 4} {imm : Imm}

theorem demandAddress_some (a : Word) : demandAddress subtype imm (some a) = .ok a := rfl

theorem demandAddress_none : demandAddress subtype imm none = .error (.platformLookup subtype imm) := rfl

/-- The value address of a map that `map_val` gives an address for. -/
theorem valueAddress_of_gives {m b : Word} (h : TableGives s.platform.mapVal Config.mapVal m b) (nextImm : Imm) :
    valueAddress s subtype imm (some m) nextImm = .ok (BitVec.ofInt 64 (b.toInt + nextImm.toInt)) := by
  rw [valueAddress, Option.bind_some, lookup_of_gives h, demandAddress_some, bind_of_ok, add_sextImm_eq_ofInt]
  rfl

theorem valueAddress_of_absent {m : Word} (h : TableAbsent s.platform.mapVal m) (nextImm : Imm) :
    valueAddress s subtype imm (some m) nextImm = .error (.platformLookup subtype imm) := by
  rw [valueAddress, Option.bind_some, lookup_of_absent h, demandAddress_none, bind_of_error]

theorem valueAddress_none (nextImm : Imm) : valueAddress s subtype imm none nextImm = .error (.platformLookup subtype imm) := rfl

end

/-! ### Answers of the shared operation -/

section
variable {s : State} {dst : Reg} {v : Except Fault Word}

/-- A 64-bit immediate with a value writes it and goes on two slots further (47_imm64.md R430). -/
theorem setWide_answers {a : Word} (hd : dst.Valid) (hg : supports s.platform.groups .base64 = true) (hv : v = .ok a) :
    ∃ t, setWide .base64 dst v s = .next t ∧ RegisterResult s t dst a (s.pc + 2) := by
  obtain ⟨hwrote, -⟩ := s.registerResult_finish hd a
  exact ⟨_, setWide_eq_next.mpr ⟨permit_of (List.forall_mem_singleton.mpr hd) hg, a, hv, rfl⟩, hwrote, fun _ => rfl, rfl,
    rfl, rfl, rfl, rfl, rfl, rfl, rfl, rfl⟩

/-- One whose address function is absent is the fault of that (60_exceptions.md R469). -/
theorem setWide_eq_fault {f : Fault} (hd : dst.Valid) (hg : supports s.platform.groups .base64 = true) (hv : v = .error f) :
    setWide .base64 dst v s = .fault f := by
  rw [setWide, permit_of (List.forall_mem_singleton.mpr hd) hg, hv]
  rfl

end

/-! ### The results of the immediates -/

/-- Settles O44. No address function is asked, and the value is the concatenation as a number. -/
theorem immediateLoad64 : Obligations.ImmediateLoad64 := fun _ imm nextImm _ hd hg =>
  setWide_answers hd hg (congrArg Except.ok (imm64_eq_ofNat imm nextImm))

/-- Settles O45. What a table gives is what its lookup finds, and no other part of the instruction can fault. -/
theorem platformAddressResults : Obligations.PlatformAddressResults := by
  intro dst imm nextImm s a hd hg
  refine ⟨fun ha => ⟨?mapfd, fun b hb => ?mapfdVal⟩, fun ha => ⟨?mapidx, fun b hb => ?mapidxVal⟩, fun ha => ?varaddr,
    fun ha => ?codeaddr⟩
  all_goals refine setWide_answers hd hg ?_
  case mapfd | varaddr | codeaddr | mapidx => rw [lookup_of_gives ha, demandAddress_some]
  case mapfdVal | mapidxVal =>
    rw [lookup_of_gives ha]
    exact valueAddress_of_gives hb nextImm

/-- Settles O46. Where a table is absent its lookup finds nothing, and that is all the instruction asks after its checks. -/
theorem platformLookupFaults : Obligations.PlatformLookupFaults := by
  intro dst imm nextImm s hd hg
  refine ⟨fun h => ⟨?mapfd, ?mapfdVal⟩, fun m hm hval => ?mapfdAbsent, fun h => ?varaddr, fun h => ?codeaddr,
    fun h => ⟨?mapidx, ?mapidxVal⟩, fun m hm hval => ?mapidxAbsent⟩
  all_goals refine setWide_eq_fault hd hg ?_
  case mapfd | varaddr | codeaddr | mapidx => rw [lookup_of_absent h, demandAddress_none]
  case mapfdVal | mapidxVal => rw [lookup_of_absent h, valueAddress_none]
  case mapfdAbsent | mapidxAbsent =>
    rw [lookup_of_gives hm]
    exact valueAddress_of_absent hval nextImm

/-- Settles O47. The seven stops make no check, so that their answer is the same in every state. -/
theorem stopsOnEveryPath : Obligations.StopsOnEveryPath := fun _ _ _ => ⟨rfl, rfl, rfl, rfl, rfl, rfl, rfl⟩

end Sys2Proof.Machine
